-- ==== Sys2Proof/Word.lean ====
section
/-! DEFINITION. The words CORE moves (00_scope.md R6, R8): bytes, nibbles, register indices, 16-bit addresses, the
register file's shape, and the name of an ALU input. -/

namespace Sys2Proof

/-- A byte: GPR_WIDTH, KBD_WIDTH and AB_WIDTH are 8 (R6). -/
abbrev Byte := BitVec 8

/-- A 4-bit field: the opcode, the trait (R90), the flag register (R26). -/
abbrev Nibble := BitVec 4

/-- A general-purpose register's index (R22: "mapped by a 3-bit index"). -/
abbrev RegIdx := BitVec 3

/-- A two-byte operand (R6, OPND_ADDR_WIDTH). -/
abbrev Addr16 := BitVec 16

/-- The accumulator's width (R25, ACC_WIDTH = 16). -/
abbrev Word := BitVec 16

/-- Eight bytes: the general-purpose registers x[0..7] (R22), or the operand bytes of LD8 and ST8 (R92, FB8). -/
abbrev Octet := Vector Byte 8

/-- The two ALU inputs LDAL chooses between (R24, R93). -/
inductive AluInput where
  | a
  | b
deriving DecidableEq, Repr

end Sys2Proof
end

