-- ==== Sys2Proof/Syntax.lean ====
section
/-! DEFINITION. The instructions: one constructor per row of spec/opcode_table.json, with every field of its encoding
(30_encoding.md R92, R95). A field the spec says is ignored is kept, so that no bit of an encoding is lost (log 14). -/

namespace Sys2Proof

/-- An instruction of CORE, operands as R93 assembles them. -/
inductive Instr where
  /-- 0x0, FR `0000 s rrr` (R132). -/
  | ldal (sel : AluInput) (r : RegIdx)
  /-- 0x1, FT (R134). -/
  | sacc (t : Nibble)
  /-- 0x2, FA (R138). -/
  | lsr (t : Nibble) (addr : Addr16)
  /-- 0x3, FT (R142). -/
  | alu (f : Nibble)
  /-- 0x4, FT (R148). -/
  | stk (t : Nibble)
  /-- 0x5, FA; the trait is ignored (R170, R94). -/
  | jmp (t : Nibble) (addr : Addr16)
  /-- 0x6, FB; `off` is the raw offset byte (R175). -/
  | jcc (c : Nibble) (off : Byte)
  /-- 0x7, FBB (R154). -/
  | movb (t : Nibble) (o1 o2 : Byte)
  /-- 0x8, FA; the trait is ignored (R160, R94). -/
  | ssp (t : Nibble) (addr : Addr16)
  /-- 0x9, FA; the trait is ignored (R180, R94). -/
  | jsr (t : Nibble) (addr : Addr16)
  /-- 0xA, FT; the trait is ignored (R184, R94). -/
  | rts (t : Nibble)
  /-- 0xB, FX (R191). -/
  | undefGpioB (t : Nibble)
  /-- 0xC, FX (R192). -/
  | undefGpioC (t : Nibble)
  /-- 0xD, FX (R193). -/
  | undefD (t : Nibble)
  /-- 0xE, FX (R194). -/
  | undefE (t : Nibble)
  /-- 0xF0 (R201). -/
  | hlt
  /-- 0xF1, FB8 (R203). -/
  | ld8 (d : Octet)
  /-- 0xF2, FB8; the eight bytes are target cells, not operands (R204). -/
  | st8 (d : Octet)
  /-- 0xF3 (R205). -/
  | nop
  /-- 0xF4, FBB (R206). -/
  | wscr (o1 o2 : Byte)
  /-- 0xF5, FB; `o1` is the raw index byte (R207). -/
  | rkbd (o1 : Byte)
  /-- 0xF6 (R208). -/
  | ckbd
  /-- 0xF7 (R209). -/
  | undefSf7
  /-- 0xF8 to 0xFF, `11111xxx` (R209). -/
  | undefSf8to15 (x : BitVec 3)
deriving DecidableEq, Repr

end Sys2Proof
end

