-- ==== Sys2Proof/WellFormed.lean ====
section
/-! DEFINITION. Assembler terms (30_encoding.md R100) and the checks R100 puts on them. Every field of an `Instr` has exactly
the width of its encoding field, so an `Instr` needs no check and statements about instructions range over all of them; an
assembler term holds plain numbers, and these are checked here. -/

namespace Sys2Proof

/-- One line of R100's table, numbers as written. `target` is the JCC's destination address, not its offset. -/
inductive Asm where
  | ldal (sel : AluInput) (r : Nat)
  | sacc (t : Nat)
  | lsr (t addr : Nat)
  | alu (f : Nat)
  | stk (t : Nat)
  | jmp (addr : Nat)
  | jcc (c target : Nat)
  | movb (t b1 b2 : Nat)
  | ssp (addr : Nat)
  | jsr (addr : Nat)
  | rts
  | hlt
  | ld8 (d : List Nat)
  | st8
  | st8With (d : List Nat)
  | nop
  | wscr (b1 b2 : Nat)
  | rkbd (r : Nat)
  | ckbd
  | byte (b : Nat)
deriving DecidableEq, Repr

/-- `Rr` names one of the eight registers (R22, R100). -/
def isReg (r : Nat) : Bool := decide (r < 8)

/-- A trait is a 4-bit value (R90). -/
def isTrait (t : Nat) : Bool := decide (t < 16)

/-- A byte operand (R8). -/
def isByte (b : Nat) : Bool := decide (b < 256)

/-- `addr` is "a number in [0, 65535]" (R100). -/
def isAddr (a : Nat) : Bool := decide (a < 65536)

/-- Eight data bytes (R92, FB8). -/
def isOctet (d : List Nat) : Bool := decide (d.length = 8) && d.all isByte

/-- "The offset must lie in [-128, 127]; p is the JCC's own address" (R100). -/
def isReach (p target : Nat) : Bool := decide (target ≤ p + 127) && decide (p ≤ target + 128)

/-- The checks R100 puts on a line assembled at address `p`. -/
def Asm.wellFormed (p : Nat) : Asm → Bool
  | .ldal _ r => isReg r
  | .sacc t => isTrait t
  | .lsr t addr => isTrait t && isAddr addr
  | .alu f => isTrait f
  | .stk t => isTrait t
  | .jmp addr => isAddr addr
  | .jcc c target => isTrait c && isReach p target
  | .movb t b1 b2 => isTrait t && isByte b1 && isByte b2
  | .ssp addr => isAddr addr
  | .jsr addr => isAddr addr
  | .rts => true
  | .hlt => true
  | .ld8 d => isOctet d
  | .st8 => true
  | .st8With d => isOctet d
  | .nop => true
  | .wscr b1 b2 => isByte b1 && isByte b2
  | .rkbd r => isReg r
  | .ckbd => true
  | .byte b => isByte b

end Sys2Proof
end

