-- ==== Sys2Proof/Decode.lean ====
section
/-! DEFINITION. The decoder (30_encoding.md R90 to R97), total on any bytes; after it the encoder, the opcode table's rows,
the assembler's table (R100) and the host's `decodeTableWord`. -/

namespace Sys2Proof

/-- `op = ib >> 4` (R90). -/
def opcodeOf (ib : Byte) : Nibble := ib.extractLsb' 4 4

/-- `t = ib & 0x0F` (R90). -/
def traitOf (ib : Byte) : Nibble := ib.extractLsb' 0 4

/-- `addr16 = {o1, o2} = (o1 << 8) | o2`: most significant byte first (R93, R65). -/
def addr16 (o1 o2 : Byte) : Addr16 := o1 ++ o2

/-- `s = t[3]`: 0 picks A and 1 picks B (R93; the polarity is the spec's decision D9). -/
def aluInputOf (t : Nibble) : AluInput := if t.getLsbD 3 then .b else .a

/-- The low three bits of a trait: `r = t & 0x07` (R93), or the ignored bits of 0xF8 to 0xFF. -/
def lowThree (t : Nibble) : BitVec 3 := t.extractLsb' 0 3

/-- The eight bytes after the instruction byte (R92, FB8). -/
def octetOf (b : Nat → Byte) : Octet := #v[b 1, b 2, b 3, b 4, b 5, b 6, b 7, b 8]

/-- The secondary map, opcode 0xF by trait (R97). -/
def decodeSpecial (t : Nibble) (b : Nat → Byte) : Instr :=
  match t.toNat with
  | 0 => .hlt
  | 1 => .ld8 (octetOf b)
  | 2 => .st8 (octetOf b)
  | 3 => .nop
  | 4 => .wscr (b 1) (b 2)
  | 5 => .rkbd (b 1)
  | 6 => .ckbd
  | 7 => .undefSf7
  | _ => .undefSf8to15 (lowThree t)

/-- The decoder: `b k` is the byte k places after the instruction byte. It is total: "every byte value decodes to some
opcode/trait pair" (R90), and each of the 256 bytes is in the map (R95, R96). -/
def decodeBytes (b : Nat → Byte) : Instr :=
  match (opcodeOf (b 0)).toNat with
  | 0 => .ldal (aluInputOf (traitOf (b 0))) (lowThree (traitOf (b 0)))
  | 1 => .sacc (traitOf (b 0))
  | 2 => .lsr (traitOf (b 0)) (addr16 (b 1) (b 2))
  | 3 => .alu (traitOf (b 0))
  | 4 => .stk (traitOf (b 0))
  | 5 => .jmp (traitOf (b 0)) (addr16 (b 1) (b 2))
  | 6 => .jcc (traitOf (b 0)) (b 1)
  | 7 => .movb (traitOf (b 0)) (b 1) (b 2)
  | 8 => .ssp (traitOf (b 0)) (addr16 (b 1) (b 2))
  | 9 => .jsr (traitOf (b 0)) (addr16 (b 1) (b 2))
  | 10 => .rts (traitOf (b 0))
  | 11 => .undefGpioB (traitOf (b 0))
  | 12 => .undefGpioC (traitOf (b 0))
  | 13 => .undefD (traitOf (b 0))
  | 14 => .undefE (traitOf (b 0))
  | _ => decodeSpecial (traitOf (b 0)) b

/-- The width in bytes, from the instruction byte alone (R91, R95). A fatal encoding is its instruction byte only. -/
def widthOf (ib : Byte) : Nat :=
  match (opcodeOf ib).toNat with
  | 2 | 5 | 7 | 8 | 9 => 3
  | 6 => 2
  | 15 =>
    match (traitOf ib).toNat with
    | 1 | 2 => 9
    | 4 => 3
    | 5 => 2
    | _ => 1
  | _ => 1

/-- Why a list of bytes holds no instruction: only for want of bytes, since every byte value is assigned (R96). -/
inductive DecodeError where
  /-- There is no instruction byte. -/
  | noByte
  /-- The instruction byte selects a width longer than the list. -/
  | truncated
deriving DecidableEq, Repr

/-- Decode a list of bytes: the instruction and the bytes after it, or why there is none. -/
def decode : List Byte → Except DecodeError (Instr × List Byte)
  | [] => .error .noByte
  | ib :: rest =>
    if rest.length + 1 < widthOf ib then .error .truncated
    else .ok (decodeBytes (fun k => (ib :: rest).getD k 0), (ib :: rest).drop (widthOf ib))

/-- The width in bytes of an instruction (R95). -/
def Instr.width : Instr → Nat
  | .ldal _ _ => 1
  | .sacc _ => 1
  | .lsr _ _ => 3
  | .alu _ => 1
  | .stk _ => 1
  | .jmp _ _ => 3
  | .jcc _ _ => 2
  | .movb _ _ _ => 3
  | .ssp _ _ => 3
  | .jsr _ _ => 3
  | .rts _ => 1
  | .undefGpioB _ => 1
  | .undefGpioC _ => 1
  | .undefD _ => 1
  | .undefE _ => 1
  | .hlt => 1
  | .ld8 _ => 9
  | .st8 _ => 9
  | .nop => 1
  | .wscr _ _ => 3
  | .rkbd _ => 2
  | .ckbd => 1
  | .undefSf7 => 1
  | .undefSf8to15 _ => 1

/-- The fatal bytes: 0xB0 to 0xEF and 0xF7 to 0xFF (R98). -/
def isFatalByte (ib : Byte) : Bool :=
  (decide (0xB0 ≤ ib.toNat) && decide (ib.toNat ≤ 0xEF)) || decide (0xF7 ≤ ib.toNat)

/-- The most significant byte of a two-byte operand (R65). -/
def addrHi (a : Addr16) : Byte := a.extractLsb' 8 8

/-- The least significant byte of a two-byte operand (R65). -/
def addrLo (a : Addr16) : Byte := a.extractLsb' 0 8

/-- LDAL's trait: bit 3 is `s`, bits 2:0 are `r` (R92, FR). -/
def ldalTrait (sel : AluInput) (r : RegIdx) : Nibble :=
  match sel with
  | .a => 0#1 ++ r
  | .b => 1#1 ++ r

/-- The instruction byte of opcode `op` and trait `t` (R90). -/
def instrByte (op t : Nibble) : Byte := op ++ t

/-- The bytes of an instruction in address order, from the formats of R92. -/
def encode : Instr → List Byte
  | .ldal sel r => [instrByte 0x0 (ldalTrait sel r)]
  | .sacc t => [instrByte 0x1 t]
  | .lsr t addr => [instrByte 0x2 t, addrHi addr, addrLo addr]
  | .alu f => [instrByte 0x3 f]
  | .stk t => [instrByte 0x4 t]
  | .jmp t addr => [instrByte 0x5 t, addrHi addr, addrLo addr]
  | .jcc c off => [instrByte 0x6 c, off]
  | .movb t o1 o2 => [instrByte 0x7 t, o1, o2]
  | .ssp t addr => [instrByte 0x8 t, addrHi addr, addrLo addr]
  | .jsr t addr => [instrByte 0x9 t, addrHi addr, addrLo addr]
  | .rts t => [instrByte 0xA t]
  | .undefGpioB t => [instrByte 0xB t]
  | .undefGpioC t => [instrByte 0xC t]
  | .undefD t => [instrByte 0xD t]
  | .undefE t => [instrByte 0xE t]
  | .hlt => [0xF0]
  | .ld8 d => 0xF1 :: d.toList
  | .st8 d => 0xF2 :: d.toList
  | .nop => [0xF3]
  | .wscr o1 o2 => [0xF4, o1, o2]
  | .rkbd o1 => [0xF5, o1]
  | .ckbd => [0xF6]
  | .undefSf7 => [0xF7]
  | .undefSf8to15 x => [instrByte 0xF (1#1 ++ x)]

/-- One row of spec/opcode_table.json: a byte is in the row when `ib &&& mask = pattern`. -/
structure TableRow where
  pattern : Byte
  mask : Byte
  width : Nat
deriving DecidableEq, Repr

/-- The rows of spec/opcode_table.json, in its order. -/
def opcodeTable : List TableRow :=
  [⟨0x00, 0xF0, 1⟩, ⟨0x10, 0xF0, 1⟩, ⟨0x20, 0xF0, 3⟩, ⟨0x30, 0xF0, 1⟩, ⟨0x40, 0xF0, 1⟩, ⟨0x50, 0xF0, 3⟩,
   ⟨0x60, 0xF0, 2⟩, ⟨0x70, 0xF0, 3⟩, ⟨0x80, 0xF0, 3⟩, ⟨0x90, 0xF0, 3⟩, ⟨0xA0, 0xF0, 1⟩, ⟨0xB0, 0xF0, 1⟩]
  ++
  [⟨0xC0, 0xF0, 1⟩, ⟨0xD0, 0xF0, 1⟩, ⟨0xE0, 0xF0, 1⟩, ⟨0xF0, 0xFF, 1⟩, ⟨0xF1, 0xFF, 9⟩, ⟨0xF2, 0xFF, 9⟩,
   ⟨0xF3, 0xFF, 1⟩, ⟨0xF4, 0xFF, 3⟩, ⟨0xF5, 0xFF, 2⟩, ⟨0xF6, 0xFF, 1⟩, ⟨0xF7, 0xFF, 1⟩, ⟨0xF8, 0xF8, 1⟩]

/-- Whether an instruction byte is in a row of the table. -/
def TableRow.holds (row : TableRow) (ib : Byte) : Bool := ib &&& row.mask == row.pattern

/-- The position of an instruction's row in `opcodeTable`. -/
def Instr.tableIndex : Instr → Nat
  | .ldal _ _ => 0
  | .sacc _ => 1
  | .lsr _ _ => 2
  | .alu _ => 3
  | .stk _ => 4
  | .jmp _ _ => 5
  | .jcc _ _ => 6
  | .movb _ _ _ => 7
  | .ssp _ _ => 8
  | .jsr _ _ => 9
  | .rts _ => 10
  | .undefGpioB _ => 11
  | .undefGpioC _ => 12
  | .undefD _ => 13
  | .undefE _ => 14
  | .hlt => 15
  | .ld8 _ => 16
  | .st8 _ => 17
  | .nop => 18
  | .wscr _ _ => 19
  | .rkbd _ => 20
  | .ckbd => 21
  | .undefSf7 => 22
  | .undefSf8to15 _ => 23

/-- A number as a byte, a list of numbers as eight bytes. -/
def octetOfNats (d : List Nat) : Octet :=
  octetOf (fun k => BitVec.ofNat 8 (d.getD (k - 1) 0))

/-- The instruction a line of R100's table assembles to at address `p`; `.byte` is a byte, not an instruction. The assembler
emits trait 0 for JMP, SSP, JSR and RTS, eight 0x00 bytes for a bare ST8, and `(target - p) & 0xFF` for JCC. -/
def Asm.toInstr (p : Nat) : Asm → Option Instr
  | .ldal sel r => some (.ldal sel (BitVec.ofNat 3 r))
  | .sacc t => some (.sacc (BitVec.ofNat 4 t))
  | .lsr t addr => some (.lsr (BitVec.ofNat 4 t) (BitVec.ofNat 16 addr))
  | .alu f => some (.alu (BitVec.ofNat 4 f))
  | .stk t => some (.stk (BitVec.ofNat 4 t))
  | .jmp addr => some (.jmp 0 (BitVec.ofNat 16 addr))
  | .jcc c target => some (.jcc (BitVec.ofNat 4 c) (BitVec.ofInt 8 ((target : Int) - (p : Int))))
  | .movb t b1 b2 => some (.movb (BitVec.ofNat 4 t) (BitVec.ofNat 8 b1) (BitVec.ofNat 8 b2))
  | .ssp addr => some (.ssp 0 (BitVec.ofNat 16 addr))
  | .jsr addr => some (.jsr 0 (BitVec.ofNat 16 addr))
  | .rts => some (.rts 0)
  | .hlt => some .hlt
  | .ld8 d => some (.ld8 (octetOfNats d))
  | .st8 => some (.st8 (octetOfNats []))
  | .st8With d => some (.st8 (octetOfNats d))
  | .nop => some .nop
  | .wscr b1 b2 => some (.wscr (BitVec.ofNat 8 b1) (BitVec.ofNat 8 b2))
  | .rkbd r => some (.rkbd (BitVec.ofNat 8 r))
  | .ckbd => some .ckbd
  | .byte _ => none

/-- The bytes a line of R100's table assembles to at address `p`. -/
def assemble (p : Nat) (line : Asm) : List Byte :=
  match line.toInstr p, line with
  | some i, _ => encode i
  | none, .byte b => [BitVec.ofNat 8 b]
  | none, _ => []

/-- The longest instruction, in bytes (R91). -/
def maxWidth : Nat := 9

/-- The bytes of a word numbered as spec/opcode_table.json numbers it: byte k is bits 8k+7 to 8k, and every bit from `nbits`
on is 0. -/
def tableBytes (nbits w : Nat) : List Byte :=
  (List.range maxWidth).map fun k => BitVec.ofNat 8 (w % 2 ^ nbits / 256 ^ k)

/-- The host's question: what the decoder reads from an opcode-table word. -/
def decodeTableWord (nbits w : Nat) : Option Instr :=
  match decode (tableBytes nbits w) with
  | .ok (i, _) => some i
  | .error _ => none

end Sys2Proof
end

