-- ==== Sys2Proof/Config.lean ====
section
/-! DEFINITION. The parameters of CORE (00_scope.md R6, R7) as plain data, and the FREE VALUES: opaque constants with no body
for what the spec leaves open (93_implementation_defined.md I1 to I7, I15, I16). Nothing can be proved about a free value, so
a theorem that mentions one holds for every function in its place (40_data_alu.md R131 point 5). -/

namespace Sys2Proof.Config

/-- How the five open slots are bound (R131): `free` takes the opaque functions below; `source` is the SOURCE binding of
R131 point 4, under which each returns its writable inputs unchanged. DESIGN CHOICE, log 3. -/
inductive OpenSlots where
  | free
  | source
deriving DecidableEq, Repr

/-- How COND is bound (R176, which gives it no SOURCE binding): `free` takes the opaque `cond`; `table bits` reads bit
16 * c + FLAGS of a named table. DESIGN CHOICE, log 4. -/
inductive CondBinding where
  | free
  | table (bits : BitVec 256)
deriving DecidableEq, Repr

/-- The parameters one machine is built with (R6, R7); no step changes them. They stand in State so that a statement about
every state is a statement about every configuration (DESIGN CHOICE, log 1). -/
structure Params where
  /-- DEBUG (R7, R250). -/
  debug : Bool
  /-- STEP_MODE (R7, R248). -/
  stepMode : Bool
  /-- SCREEN_EN (R7, R206). -/
  screenEn : Bool
  /-- KBD_EN (R7, R245). -/
  kbdEn : Bool
  /-- N - 65536: R6 says N is "an integer, N >= 65536" (log 10). -/
  growth : Nat
  /-- FILL_BYTE (R6, R99, R272). -/
  fillByte : Byte
  /-- The binding of SACC_FN, LSR_FN, ALU_FN, STK_FN and MOVB_FN. -/
  openSlots : OpenSlots
  /-- The binding of COND. -/
  cond : CondBinding
deriving DecidableEq, Repr

/-- MEM_SIZE, written N (R6, R62). -/
def Params.memSize (p : Params) : Nat := 65536 + p.growth

/-- SACC_FN (R135): N, t, ACC, x, SP and the bytes of M, to x' and the writes that turn M into M'. FREE VALUE, log 3. -/
opaque saccFn : Nat → Nibble → Word → Octet → Nat → (Nat → Byte) → Octet × List (Nat × Byte)

/-- LSR_FN (R139): N, t, addr16, x and the bytes of M, to x' and the writes that turn M into M'. FREE VALUE, log 3. -/
opaque lsrFn : Nat → Nibble → Addr16 → Octet → (Nat → Byte) → Octet × List (Nat × Byte)

/-- ALU_FN (R146): f, A, B, ACC and FLAGS, to ACC' and FLAGS'. FREE VALUE, log 3. -/
opaque aluFn : Nibble → Byte → Byte → Word → Nibble → Word × Nibble

/-- STK_FN (R150): N, t, ACC, SP and the bytes of M, to ACC', the integer SP' and the writes that turn M into M'.
FREE VALUE, log 3. -/
opaque stkFn : Nat → Nibble → Word → Nat → (Nat → Byte) → Word × Int × List (Nat × Byte)

/-- MOVB_FN (R155): N, t, o1, o2, x and the bytes of M, to x' and the writes that turn M into M'. FREE VALUE, log 3. -/
opaque movbFn : Nat → Nibble → Byte → Byte → Octet → (Nat → Byte) → Octet × List (Nat × Byte)

/-- COND (R176): c and FLAGS to whether the jump is taken. FREE VALUE, log 4. -/
opaque cond : Nibble → Nibble → Bool

/-- The result of the n-th keyboard poll: `none` is the spec's NONE, else one byte (R244). FREE VALUE, log 6. -/
opaque kbdPoll : Nat → Option Byte

/-- What the n-th look at the console finds: `none` while it has not answered, `some false` for CONTINUE, `some true` for
ABORT (R248). FREE VALUE, log 7. -/
opaque consoleAnswer : Nat → Option Bool

end Sys2Proof.Config
end

