-- ==== Sys2Proof/Machine/State.lean ====
section
/-! DEFINITION. The machine's state as plain data (10_state.md R20 to R38), the events of its trace (R10), the environment's
draws (R244, R248), the reasons a step can stop, and the state after reset. -/

namespace Sys2Proof.Machine

open Sys2Proof

/-- R33: the source's "Halted flag". -/
inductive RunState where
  | running
  | halted
deriving DecidableEq, Repr

/-- R34: why the machine halted. -/
inductive Cause where
  /-- Code 0, not halted. -/
  | none
  /-- Code 1, HLT. -/
  | halt
  /-- Code 2, opcodes 0xB and 0xC; fatal. -/
  | undefGpio
  /-- Code 3, opcodes 0xD and 0xE; fatal. -/
  | undefOpcode
  /-- Code 4, opcode 0xF with a trait in 7..15; fatal. -/
  | undefSf
  /-- Code 5, the single-step console's escape. -/
  | abort
deriving DecidableEq, Repr

/-- R248: the console's answer. -/
inductive Ack where
  | continue
  | abort
deriving DecidableEq, Repr

/-- R10: the kinds of trace event. A `Diagnostic` carries its cause and no text (I19, log 15). -/
inductive Event where
  | screenEmit (b1 b2 : Byte)
  | kbdPoll (result : Option Byte)
  | stepWait (ack : Ack)
  | trace (pc : Nat) (icount : BitVec 64)
  | rasAdvisory (asp : Int)
  | diagnostic (cause : Cause)
deriving DecidableEq, Repr

/-- What the environment gives: poll number n returns entry n of `kbdScript` and, past its end, a free value; look number n
at the console finds entry n of `ackScript` and, past its end, a free value (logs 6 and 7). -/
structure Env where
  /-- Results of the first polls: NONE or one byte (R244). -/
  kbdScript : List (Option Byte)
  /-- How many polls there have been. -/
  polls : Nat
  /-- Findings of the first looks at the console: no answer yet, or an answer (R248). -/
  ackScript : List (Option Ack)
  /-- How many looks there have been. -/
  waits : Nat
deriving DecidableEq, Repr

/-- The bytes of M that differ from what an unlisted address reads as, by rising address (R60). -/
abbrev Memory := List Host.Cell

/-- What an unlisted address reads as: the filler that pads M at reset (R272, log 12). -/
def Memory.unlisted (cfg : Config.Params) : Byte := cfg.fillByte

/-- The cells rise strictly from `lo`, lie below `size` and none equals `fill`. -/
def Memory.wfFrom (fill : Byte) (size : Nat) : Nat → Memory → Bool
  | _, [] => true
  | lo, (k, v) :: rest => decide (lo ≤ k) && decide (k < size) && decide (v ≠ fill) && Memory.wfFrom fill size (k + 1) rest

/-- The canonical form: two memories in it that read alike are equal. -/
def Memory.wf (fill : Byte) (size : Nat) (m : Memory) : Bool := Memory.wfFrom fill size 0 m

/-- Why the machine stops. -/
inductive Fault where
  /-- Raised by `step` at a state with `run` = HALTED: "A halted machine has no step" (R124). It carries the cause, so that the
  three ends of R236 stay apart: HALT is the normal end, UNDEF_GPIO, UNDEF_OPCODE and UNDEF_SF are faults, ABORT is the
  host's. Safe: the machine of the spec does not step either. -/
  | halted (cause : Cause)
deriving DecidableEq, Repr

/-- Why an instruction has no meaning. -/
inductive Refusal where
  /-- Raised by an arm of `exec` whose instruction is not modelled. No arm raises it: every instruction has its meaning.
  Safe. -/
  | notModelled (mnemonic : String)
deriving DecidableEq, Repr

/-- CORE's state (R20); the last three fields are the model's own (logs 1, 5, 6 and 7). -/
structure State where
  /-- M (R60). -/
  mem : Memory
  /-- x[0..7] (R22). -/
  x : Octet
  /-- ALU input A (R24). -/
  a : Byte
  /-- ALU input B (R24). -/
  b : Byte
  /-- ACC (R25). -/
  acc : Word
  /-- FLAGS: bit 0 C, bit 1 Z, bit 2 S, bit 3 V (R26). -/
  flags : Nibble
  /-- KBD (R27). -/
  kbd : Byte
  /-- pc, in [0, N) (R28). -/
  pc : Nat
  /-- SP, in [0, N) (R30). -/
  sp : Nat
  /-- RAS[0..15], each in [0, N) (R31). -/
  ras : Vector Nat 16
  /-- ASP, a two's-complement counter that is not reduced (R32, log 9). -/
  asp : BitVec 32
  /-- run (R33). -/
  run : RunState
  /-- cause (R34). -/
  cause : Cause
  /-- ICOUNT (R35). -/
  icount : BitVec 64
  /-- The parameters, constant for a run (R7, R21). -/
  cfg : Config.Params
  /-- The event trace, oldest first (R10). -/
  trace : List Event
  /-- The environment's draws (R244, R248). -/
  env : Env
deriving DecidableEq, Repr

/-- The parameters of 95_test_vectors.md's common start state, the open slots and COND left free. DESIGN CHOICE, log 2. -/
def commonParams : Config.Params :=
  { debug := false, stepMode := false, screenEn := false, kbdEn := false, growth := 0, fillByte := 0xFF,
    openSlots := .free, cond := .free }

/-- The state after reset (R38) of a machine with parameters `cfg`, memory `mem` and environment `env`. -/
def State.resetWith (cfg : Config.Params) (mem : Memory) (env : Env) : State :=
  { mem := mem, x := Vector.replicate 8 0, a := 0, b := 0, acc := 0, flags := 0, kbd := 0, pc := 0, sp := 0,
    ras := Vector.replicate 16 0, asp := 0, run := .running, cause := .none, icount := 0,
    cfg := cfg, trace := [], env := env }

/-- No draw settled, none taken. DESIGN CHOICE, log 8. -/
def Env.fresh : Env := { kbdScript := [], polls := 0, ackScript := [], waits := 0 }

/-- The state after reset with the empty image: memory is all FILL_BYTE (R272), the registers as in R38. -/
def State.reset : State := State.resetWith commonParams [] Env.fresh

end Sys2Proof.Machine
end

