-- ==== Sys2Proof/Machine/Ops.lean ====
section
/-! DEFINITION. The named operations over memory, registers, the return-address stack and the trace, and the one shared
operation for a fatal condition (60_exceptions.md R231). There is no return from it: "No transition leaves Halted" (R235). -/

namespace Sys2Proof.Machine

open Sys2Proof

/-! ### Memory (20_memory.md) -/

/-- The byte a memory holds at `a`: the listed one, else the filler (R63, R71). -/
def Memory.read (fill : Byte) : Memory → Nat → Byte
  | [], _ => fill
  | (k, v) :: rest, a => if k = a then v else Memory.read fill rest a

/-- Drop what is listed at `a`. -/
def Memory.erase : Memory → Nat → Memory
  | [], _ => []
  | (k, v) :: rest, a => if k = a then Memory.erase rest a else (k, v) :: Memory.erase rest a

/-- List `v` at `a`, before the first higher address. -/
def Memory.insert : Memory → Nat → Byte → Memory
  | [], a, v => [(a, v)]
  | (k, w) :: rest, a, v => if a < k then (a, v) :: (k, w) :: rest else (k, w) :: Memory.insert rest a v

/-- Write one byte and keep the canonical form: the filler is not listed. -/
def Memory.write (fill : Byte) (m : Memory) (a : Nat) (v : Byte) : Memory :=
  if v = fill then Memory.erase m a else Memory.insert (Memory.erase m a) a v

/-- N (R6, R62). -/
def State.size (s : State) : Nat := s.cfg.memSize

/-- `MemRead(addr, 1)` = `M[addr mod N]` (R9, R61). -/
def State.readByte (s : State) (addr : Nat) : Byte :=
  Memory.read (Memory.unlisted s.cfg) s.mem (addr % s.size)

/-- `MemWrite(addr, 1, v)` sets `M[addr mod N] <- v` (R9, R61). -/
def State.writeByte (s : State) (addr : Nat) (v : Byte) : State :=
  { s with mem := Memory.write (Memory.unlisted s.cfg) s.mem (addr % s.size) v }

/-- Write bytes to consecutive addresses, the lowest first (R76). -/
def State.storeBytes (s : State) (addr : Nat) : List Byte → State
  | [] => s
  | v :: vs => (s.writeByte addr v).storeBytes (addr + 1) vs

/-- Make the listed writes in order, each address reduced modulo N (R131 point 3). -/
def State.applyWrites (s : State) : List Host.Cell → State
  | [] => s
  | (addr, v) :: rest => (s.writeByte addr v).applyWrites rest

/-- The `n` bytes from `addr` on. -/
def State.bytesAt (s : State) (addr : Nat) : Nat → List Byte
  | 0 => []
  | n + 1 => s.readByte addr :: s.bytesAt (addr + 1) n

/-! ### Registers (10_state.md) -/

/-- `x[i]` (R9). -/
def State.getReg (s : State) (r : RegIdx) : Byte := s.x[r.toNat]'r.isLt

/-- `x[i] <- v` (R9). -/
def State.setReg (s : State) (r : RegIdx) (v : Byte) : State := { s with x := s.x.set r.toNat v r.isLt }

/-- Write ALU input A or B (R24, R132). -/
def State.setAluInput (s : State) (sel : AluInput) (v : Byte) : State :=
  match sel with
  | .a => { s with a := v }
  | .b => { s with b := v }

/-- `pc <- (p + w) mod N` (R29). -/
def State.advance (s : State) (w : Nat) : State := { s with pc := (s.pc + w) % s.size }

/-- `pc <- target` (R9). -/
def State.jumpTo (s : State) (target : Nat) : State := { s with pc := target }

/-! ### The return-address stack (R31, R32) -/

/-- The slot index `ASP mod 16`, the low four bits of ASP (R32). -/
def rasSlot (asp : BitVec 32) : Fin 16 := ⟨asp.toNat % 16, Nat.mod_lt _ (by decide)⟩

/-- `RAS[ASP mod 16] <- ret; ASP <- ASP + 1` (R180). -/
def State.pushReturn (s : State) (ret : Nat) : State :=
  { s with ras := s.ras.set (rasSlot s.asp).val ret (rasSlot s.asp).isLt, asp := s.asp + 1 }

/-- `ASP <- ASP - 1; pc <- RAS[ASP mod 16]` (R184). -/
def State.popReturn (s : State) : State :=
  { s with asp := s.asp - 1, pc := s.ras[(rasSlot (s.asp - 1)).val]'(rasSlot (s.asp - 1)).isLt }

/-! ### Events and halting (R10) -/

/-- The number of a cause (R34; the numbers are the spec's decision D25). -/
def Cause.code : Cause → Nat
  | .none => 0
  | .halt => 1
  | .undefGpio => 2
  | .undefOpcode => 3
  | .undefSf => 4
  | .abort => 5

/-- The fatal causes (R34, R230). -/
def Cause.isFatal : Cause → Bool
  | .none => false
  | .halt => false
  | .undefGpio => true
  | .undefOpcode => true
  | .undefSf => true
  | .abort => false

/-- `emit E` appends to the trace (R10). -/
def State.emit (s : State) (e : Event) : State := { s with trace := s.trace ++ [e] }

/-- `if SCREEN_EN: emit ScreenEmit(b1, b2)` (R206); the screen always accepts (R246). -/
def State.writeScreen (s : State) (b1 b2 : Byte) : State :=
  if s.cfg.screenEn then s.emit (.screenEmit b1 b2) else s

/-- `halt(c)`: `run <- HALTED; cause <- c`, without an error (R10). -/
def State.halt (s : State) (c : Cause) : State := { s with run := .halted, cause := c }

/-- `raise Fatal(c)`: halt with the cause, emit `Diagnostic(c)`, leave every other piece of state (R10, R231). -/
def State.raiseFatal (s : State) (c : Cause) : State := (s.halt c).emit (.diagnostic c)

end Sys2Proof.Machine
end

