-- ==== Sys2Proof/Machine/Operands.lean ====
section
/-! DEFINITION. The operand forms the handlers compute (30_encoding.md R93): the signed offset, the relative target and the
register index in an operand byte. The bit fields of the instruction byte are pulled out by Decode. -/

namespace Sys2Proof.Machine

open Sys2Proof

/-- `sext_8(v)`: v if v < 128 and v - 256 otherwise (R8). PRESUMED by the spec itself, G1 (log 13). -/
def sext8 (v : Byte) : Int := if v.toNat < 128 then (v.toNat : Int) else (v.toNat : Int) - 256

/-- An integer address reduced modulo N, in [0, N) even when it is negative (R8, R61). -/
def State.wrap (s : State) (addr : Int) : Nat := (addr % (s.size : Int)).toNat

/-- A taken JCC's target `(p + off) mod N`, relative to the JCC's own address (R175; the base is the spec's decision D7). -/
def State.relTarget (s : State) (off : Byte) : Nat := s.wrap ((s.pc : Int) + sext8 off)

/-- The register index in an operand byte, `o1 & 0x07` (R93, R207; the spec's decision D20). -/
def regOfByte (o1 : Byte) : RegIdx := (o1 &&& 0x07).setWidth 3

end Sys2Proof.Machine
end

