-- ==== Sys2Proof/Machine/Flags.lean ====
section
/-! DEFINITION. FLAGS (10_state.md R26) and the condition of JCC (41_control_transfer.md R176). Only the ALU operation writes
FLAGS, wholly and through ALU_FN (R142); the spec fixes the bits' places and names, and no rule that sets them (I1). -/

namespace Sys2Proof.Machine

open Sys2Proof

/-- C, bit 0 (R26). -/
def State.carry (s : State) : Bool := s.flags.getLsbD 0

/-- Z, bit 1 (R26). -/
def State.zero (s : State) : Bool := s.flags.getLsbD 1

/-- S, bit 2 (R26). -/
def State.sign (s : State) : Bool := s.flags.getLsbD 2

/-- V, bit 3 (R26). -/
def State.overflow (s : State) : Bool := s.flags.getLsbD 3

/-- `COND(c, flags)` under a binding (R176): it depends on c and FLAGS alone. -/
def condOf (binding : Config.CondBinding) (c flags : Nibble) : Bool :=
  match binding with
  | .free => Config.cond c flags
  | .table bits => bits.getLsbD (16 * c.toNat + flags.toNat)

/-- Whether the condition selected by `c` holds of the state's FLAGS. -/
def State.condHolds (s : State) (c : Nibble) : Bool := condOf s.cfg.cond c s.flags

end Sys2Proof.Machine
end

