-- ==== Sys2Proof/Machine/Slots.lean ====
section
/-! DEFINITION. The open-slot functions (40_data_alu.md R131) as the state binds them: the opaque functions of Config, or the
SOURCE binding, which returns its writable inputs unchanged (R131 point 4). Each is given exactly the inputs its rule names
(R131 point 2) and returns only its footprint (point 3): registers, and M' as the writes that turn M into M' (log 3). -/

namespace Sys2Proof.Machine

open Sys2Proof

/-- SACC_FN(t, ACC, x, SP, M) (R135). -/
def State.saccResult (s : State) (t : Nibble) : Octet × List Host.Cell :=
  match s.cfg.openSlots with
  | .free => Config.saccFn s.size t s.acc s.x s.sp s.readByte
  | .source => (s.x, [])

/-- LSR_FN(t, addr16, x, M) (R139). -/
def State.lsrResult (s : State) (t : Nibble) (addr : Addr16) : Octet × List Host.Cell :=
  match s.cfg.openSlots with
  | .free => Config.lsrFn s.size t addr s.x s.readByte
  | .source => (s.x, [])

/-- ALU_FN(t, A, B, ACC, FLAGS) (R146). -/
def State.aluResult (s : State) (f : Nibble) : Word × Nibble :=
  match s.cfg.openSlots with
  | .free => Config.aluFn f s.a s.b s.acc s.flags
  | .source => (s.acc, s.flags)

/-- STK_FN(t, ACC, SP, M) (R150). -/
def State.stkResult (s : State) (t : Nibble) : Word × Int × List Host.Cell :=
  match s.cfg.openSlots with
  | .free => Config.stkFn s.size t s.acc s.sp s.readByte
  | .source => (s.acc, (s.sp : Int), [])

/-- MOVB_FN(t, o1, o2, x, M) (R155). -/
def State.movbResult (s : State) (t : Nibble) (o1 o2 : Byte) : Octet × List Host.Cell :=
  match s.cfg.openSlots with
  | .free => Config.movbFn s.size t o1 o2 s.x s.readByte
  | .source => (s.x, [])

/-- `x[0..7] <- x'; M <- M'` (R134, R138, R154). -/
def State.takeRegsAndWrites (s : State) (r : Octet × List Host.Cell) : State :=
  State.applyWrites { s with x := r.1 } r.2

/-- `ACC <- ACC'; SP <- SP' mod N; M <- M'` (R148). -/
def State.takeStack (s : State) (r : Word × Int × List Host.Cell) : State :=
  State.applyWrites { s with acc := r.1, sp := s.wrap r.2.1 } r.2.2

end Sys2Proof.Machine
end

