-- ==== Sys2Proof/Machine/Cycle.lean ====
section
/-! DEFINITION. The parts of one step around the handler (30_encoding.md R120, R121, R123): the single-step wait and the
keyboard poll of the gap phase (60_exceptions.md R248, R245), the fetch, and the retire step. -/

namespace Sys2Proof.Machine

open Sys2Proof

/-- How a gap phase ends: `ready` goes on to the fetch; `done` ends the step with no instruction executed. -/
inductive Gap where
  | ready (s : State)
  | done (s : State)
deriving DecidableEq, Repr

/-- The free console value in the spec's words. -/
def ackOfFree (answer : Option Bool) : Option Ack :=
  answer.map fun aborts => if aborts then Ack.abort else Ack.continue

/-- What this look at the console finds: no answer yet, or an answer (R248, I16). -/
def State.consoleFinds (s : State) : Option Ack :=
  match s.env.ackScript[s.env.waits]? with
  | some r => r
  | none => ackOfFree (Config.consoleAnswer s.env.waits)

/-- The state once the console has been looked at. -/
def State.afterLook (s : State) : State := { s with env := { s.env with waits := s.env.waits + 1 } }

/-- What this poll returns: NONE or one byte (R244, I15). -/
def State.pollReturns (s : State) : Option Byte :=
  match s.env.kbdScript[s.env.polls]? with
  | some r => r
  | none => Config.kbdPoll s.env.polls

/-- `if r = b: KBD <- KBD | b` (R245). -/
def State.orKbd (s : State) (r : Option Byte) : State :=
  match r with
  | some byte => { s with kbd := s.kbd ||| byte }
  | none => s

/-- The state once the channel has been polled. -/
def State.afterPoll (s : State) : State := { s with env := { s.env with polls := s.env.polls + 1 } }

/-- The keyboard poll: once per gap phase when KBD_EN, not at all otherwise (R245). -/
def State.pollKeyboard (s : State) : State :=
  if s.cfg.kbdEn then ((s.afterPoll).emit (.kbdPoll s.pollReturns)).orKbd s.pollReturns else s

/-- The gap phase (R120): the single-step wait, then the poll. Without an answer CORE is held: nothing but the count of looks
changes (R242, R248, log 7). On ABORT there is no poll and no fetch (R238). -/
def State.gapPhase (s : State) : Gap :=
  if s.cfg.stepMode then
    match s.consoleFinds with
    | none => .done s.afterLook
    | some .abort => .done ((s.afterLook.emit (.stepWait .abort)).halt .abort)
    | some .continue => .ready (s.afterLook.emit (.stepWait .continue)).pollKeyboard
  else .ready s.pollKeyboard

/-- Fetch and decode the instruction at pc; addresses wrap (R121, R61, R66). It never faults. -/
def State.fetch (s : State) : Instr := decodeBytes (fun k => s.readByte (s.pc + k))

/-- JSR and RTS, after which the advisory is checked (R120, R252). -/
def changesAsp : Instr → Bool
  | .jsr _ _ => true
  | .rts _ => true
  | _ => false

/-- `0 <= ASP < 16`, ASP as a signed number (R252). -/
def aspInRange (asp : BitVec 32) : Bool := decide (0 ≤ asp.toInt) && decide (asp.toInt < 16)

/-- `if run = RUNNING: ICOUNT <- (ICOUNT + 1) mod 2^64` (R35, R123). -/
def State.count (s : State) : State :=
  match s.run with
  | .running => { s with icount := s.icount + 1 }
  | .halted => s

/-- `if DEBUG: emit Trace(pc, ICOUNT)` (R250). -/
def State.telemetry (s : State) : State :=
  if s.cfg.debug then s.emit (.trace s.pc s.icount) else s

/-- `if DEBUG and op in {0x9, 0xA} and not (0 <= ASP < 16): emit RasAdvisory(ASP)` (R252). -/
def State.advise (s : State) (i : Instr) : State :=
  if s.cfg.debug && changesAsp i && !aspInRange s.asp then s.emit (.rasAdvisory s.asp.toInt) else s

/-- The retire step (R123). -/
def State.retire (s : State) (i : Instr) : State := s.count.telemetry.advise i

end Sys2Proof.Machine
end

