-- ==== Sys2Proof/Machine/Control.lean ====
section
/-! DEFINITION. Control transfer (41_control_transfer.md): JMP, JCC, JSR, RTS. -/

namespace Sys2Proof.Machine

open Sys2Proof

/-- JMP (R170); the trait is ignored. -/
def execJmp (_t : Nibble) (addr : Addr16) (s : State) : Host.Outcome State Fault Refusal :=
  .next (s.jumpTo addr.toNat)

/-- JCC (R175). -/
def execJcc (c : Nibble) (off : Byte) (s : State) : Host.Outcome State Fault Refusal :=
  .next (s.jumpTo (if s.condHolds c then s.relTarget off else (s.pc + 2) % s.size))

/-- JSR (R180): the return address is `(p + 3) mod N` (90_conflicts.md C1); the trait is ignored. -/
def execJsr (_t : Nibble) (addr : Addr16) (s : State) : Host.Outcome State Fault Refusal :=
  .next ((s.pushReturn ((s.pc + 3) % s.size)).jumpTo addr.toNat)

/-- RTS (R184); the trait is ignored. -/
def execRts (_t : Nibble) (s : State) : Host.Outcome State Fault Refusal :=
  .next s.popReturn

end Sys2Proof.Machine
end

