-- ==== Sys2Proof/Machine/Data.lean ====
section
/-! DEFINITION. Data movement, the ALU and the stack pointer (40_data_alu.md): LDAL, SACC, LSR, ALU, STK, MOVB, SSP. -/

namespace Sys2Proof.Machine

open Sys2Proof

/-- LDAL (R132). -/
def execLdal (sel : AluInput) (r : RegIdx) (s : State) : Host.Outcome State Fault Refusal :=
  .next ((s.setAluInput sel (s.getReg r)).advance 1)

/-- SACC (R134). -/
def execSacc (t : Nibble) (s : State) : Host.Outcome State Fault Refusal :=
  .next ((s.takeRegsAndWrites (s.saccResult t)).advance 1)

/-- LSR (R138). -/
def execLsr (t : Nibble) (addr : Addr16) (s : State) : Host.Outcome State Fault Refusal :=
  .next ((s.takeRegsAndWrites (s.lsrResult t addr)).advance 3)

/-- ALU (R142): FLAGS is wholly replaced. -/
def execAlu (f : Nibble) (s : State) : Host.Outcome State Fault Refusal :=
  .next (State.advance { s with acc := (s.aluResult f).1, flags := (s.aluResult f).2 } 1)

/-- STK (R148). -/
def execStk (t : Nibble) (s : State) : Host.Outcome State Fault Refusal :=
  .next ((s.takeStack (s.stkResult t)).advance 1)

/-- MOVB (R154). -/
def execMovb (t : Nibble) (o1 o2 : Byte) (s : State) : Host.Outcome State Fault Refusal :=
  .next ((s.takeRegsAndWrites (s.movbResult t o1 o2)).advance 3)

/-- SSP (R160); the trait is ignored. -/
def execSsp (_t : Nibble) (addr : Addr16) (s : State) : Host.Outcome State Fault Refusal :=
  .next (State.advance { s with sp := addr.toNat } 3)

end Sys2Proof.Machine
end

