-- ==== Sys2Proof/Machine/Reserved.lean ====
section
/-! DEFINITION. The reserved and undefined primary opcodes (42_reserved.md R190 to R195): each raises its fatal condition. -/

namespace Sys2Proof.Machine

open Sys2Proof

/-- 0xB (R191). -/
def execUndefGpioB (_t : Nibble) (s : State) : Host.Outcome State Fault Refusal := .next (s.raiseFatal .undefGpio)

/-- 0xC (R192). -/
def execUndefGpioC (_t : Nibble) (s : State) : Host.Outcome State Fault Refusal := .next (s.raiseFatal .undefGpio)

/-- 0xD (R193). -/
def execUndefD (_t : Nibble) (s : State) : Host.Outcome State Fault Refusal := .next (s.raiseFatal .undefOpcode)

/-- 0xE (R194). -/
def execUndefE (_t : Nibble) (s : State) : Host.Outcome State Fault Refusal := .next (s.raiseFatal .undefOpcode)

end Sys2Proof.Machine
end

