-- ==== Sys2Proof/Machine/Special.lean ====
section
/-! DEFINITION. The special-function unit, opcode 0xF (43_special_functions.md): HLT, LD8, ST8, NOP, WSCR, RKBD, CKBD and the
undefined special functions. -/

namespace Sys2Proof.Machine

open Sys2Proof

/-- HLT (R201): `halt(HALT)`, pc stays p. -/
def execHlt (s : State) : Host.Outcome State Fault Refusal := .next (s.halt .halt)

/-- LD8 (R203): byte p+1+i goes to register i. -/
def execLd8 (d : Octet) (s : State) : Host.Outcome State Fault Refusal :=
  .next (State.advance { s with x := d } 9)

/-- ST8 (R204): register i goes to cell p+1+i; the eight bytes that stood there are not operands. -/
def execSt8 (_d : Octet) (s : State) : Host.Outcome State Fault Refusal :=
  .next ((s.storeBytes (s.pc + 1) s.x.toList).advance 9)

/-- NOP (R205). -/
def execNop (s : State) : Host.Outcome State Fault Refusal := .next (s.advance 1)

/-- WSCR (R206): emits the pair when SCREEN_EN, nothing otherwise. -/
def execWscr (o1 o2 : Byte) (s : State) : Host.Outcome State Fault Refusal :=
  .next ((s.writeScreen o1 o2).advance 3)

/-- RKBD (R207): KBD is not changed. -/
def execRkbd (o1 : Byte) (s : State) : Host.Outcome State Fault Refusal :=
  .next ((s.setReg (regOfByte o1) s.kbd).advance 2)

/-- CKBD (R208). -/
def execCkbd (s : State) : Host.Outcome State Fault Refusal := .next (State.advance { s with kbd := 0 } 1)

/-- 0xF7 (R209). -/
def execUndefSf7 (s : State) : Host.Outcome State Fault Refusal := .next (s.raiseFatal .undefSf)

/-- 0xF8 to 0xFF (R209). -/
def execUndefSf8to15 (_x : BitVec 3) (s : State) : Host.Outcome State Fault Refusal := .next (s.raiseFatal .undefSf)

end Sys2Proof.Machine
end

