-- ==== Sys2Proof/Machine/Dispatch.lean ====
section
/-! DEFINITION. The dispatch: `op`, and under 0xF the trait, selects exactly one handler (30_encoding.md R122). -/

namespace Sys2Proof.Machine

open Sys2Proof

/-- Run one instruction's handler. While it runs, pc holds p, the address of the instruction's first byte (R29). -/
def exec (i : Instr) (s : State) : Host.Outcome State Fault Refusal :=
  match i with
  | .ldal sel r => Sys2Proof.Machine.execLdal sel r s
  | .sacc t => Sys2Proof.Machine.execSacc t s
  | .lsr t addr => Sys2Proof.Machine.execLsr t addr s
  | .alu f => Sys2Proof.Machine.execAlu f s
  | .stk t => Sys2Proof.Machine.execStk t s
  | .jmp t addr => Sys2Proof.Machine.execJmp t addr s
  | .jcc c off => Sys2Proof.Machine.execJcc c off s
  | .movb t o1 o2 => Sys2Proof.Machine.execMovb t o1 o2 s
  | .ssp t addr => Sys2Proof.Machine.execSsp t addr s
  | .jsr t addr => Sys2Proof.Machine.execJsr t addr s
  | .rts t => Sys2Proof.Machine.execRts t s
  | .undefGpioB t => Sys2Proof.Machine.execUndefGpioB t s
  | .undefGpioC t => Sys2Proof.Machine.execUndefGpioC t s
  | .undefD t => Sys2Proof.Machine.execUndefD t s
  | .undefE t => Sys2Proof.Machine.execUndefE t s
  | .hlt => Sys2Proof.Machine.execHlt s
  | .ld8 d => Sys2Proof.Machine.execLd8 d s
  | .st8 d => Sys2Proof.Machine.execSt8 d s
  | .nop => Sys2Proof.Machine.execNop s
  | .wscr o1 o2 => Sys2Proof.Machine.execWscr o1 o2 s
  | .rkbd o1 => Sys2Proof.Machine.execRkbd o1 s
  | .ckbd => Sys2Proof.Machine.execCkbd s
  | .undefSf7 => Sys2Proof.Machine.execUndefSf7 s
  | .undefSf8to15 x => Sys2Proof.Machine.execUndefSf8to15 x s

end Sys2Proof.Machine
end

