-- ==== Sys2Proof/Machine/Step.lean ====
section
/-! DEFINITION. One step of CORE (30_encoding.md R120): the gap phase, the fetch, the handler, the retire step. -/

namespace Sys2Proof.Machine

open Sys2Proof

/-- Fetch, execute and retire the instruction at pc, the gap phase being over. -/
def State.runInstr (s : State) : Host.Outcome State Fault Refusal :=
  match exec s.fetch s with
  | .next t => .next (t.retire s.fetch)
  | .fault f => .fault f
  | .refused r => .refused r

/-- One step, "defined only while run = RUNNING" (R120); "A halted machine has no step" (R124). -/
def step (s : State) : Host.Outcome State Fault Refusal :=
  match s.run with
  | .halted => .fault (.halted s.cause)
  | .running =>
    match s.gapPhase with
    | .done t => .next t
    | .ready t => t.runInstr

/-- `s` with the instruction of an opcode-table word where the next fetch finds it: nine bytes from pc on, addresses
wrapping. It stands for the load of an image at reset (R272, log 11). -/
def State.withFetchWord (s : State) (nbits w : Nat) : State := s.storeBytes s.pc (tableBytes nbits w)

end Sys2Proof.Machine
end

