-- ==== Sys2Proof/Machine/Boot.lean ====
section
/-! DEFINITION. Reset as the host requests it (70_reset_and_hazards.md R270 to R273): the configuration check, the image
against the address space, the load and the reset values. -/

namespace Sys2Proof.Machine

open Sys2Proof

/-- What the host presents at reset (R247, R271, R272). An option left unset is `none`. -/
structure BootRequest where
  debug : Option Bool
  stepMode : Option Bool
  screenEn : Option Bool
  kbdEn : Option Bool
  /-- The program image `img[0..L-1]`. -/
  image : List Byte
  /-- Whether the operator accepts an image longer than 65536 bytes. -/
  operatorAccepts : Bool
  fillByte : Byte
  openSlots : Config.OpenSlots
  cond : Config.CondBinding
  env : Env
deriving DecidableEq, Repr

/-- Why there is no run. -/
inductive BootError where
  /-- "a required boolean option left unset" (R271). -/
  | optionUnset
  /-- An oversized image the operator rejects (R272). -/
  | imageRejected
  /-- A FILL_BYTE that is no fatal encoding (R99); the model's own check, log 12. -/
  | fillNotFatal
deriving DecidableEq, Repr

/-- The image "loaded sequentially into Memory" from an address on (R272); filler bytes are not listed. -/
def loadImage (fill : Byte) : Nat → List Byte → Memory
  | _, [] => []
  | addr, v :: vs => if v = fill then loadImage fill (addr + 1) vs else (addr, v) :: loadImage fill (addr + 1) vs

/-- Steps 2 to 4 of R270, once the four options are known: N = 65536, or L for an accepted longer image (R272). -/
def BootRequest.load (r : BootRequest) (debug stepMode screenEn kbdEn : Bool) : Except BootError State :=
  if 65536 < r.image.length ∧ r.operatorAccepts = false then .error .imageRejected
  else if isFatalByte r.fillByte = false then .error .fillNotFatal
  else .ok (State.resetWith
    { debug := debug, stepMode := stepMode, screenEn := screenEn, kbdEn := kbdEn, growth := r.image.length - 65536,
      fillByte := r.fillByte, openSlots := r.openSlots, cond := r.cond }
    (loadImage r.fillByte 0 r.image) r.env)

/-- Reset (R270): the configuration check comes first, and a missing option means that no run exists (R271). -/
def boot (r : BootRequest) : Except BootError State :=
  match r.debug, r.stepMode, r.screenEn, r.kbdEn with
  | some debug, some stepMode, some screenEn, some kbdEn => r.load debug stepMode screenEn kbdEn
  | _, _, _, _ => .error .optionUnset

end Sys2Proof.Machine
end

