-- ==== Sys2Proof/Safety.lean ====
section
/-! DEFINITION. What statements about the machine are made of: the invariant of every run, the ends of a run (60_exceptions.md
R236, R254) and CORE's outputs (R247), the telemetry that debug mode adds (R251), who may write which state
(10_state.md R23 to R36), and chains of calls and returns (41_control_transfer.md R186). -/

namespace Sys2Proof.Machine

open Sys2Proof

/-- What holds at reset and after every step: memory in canonical form, pc, SP and every RAS slot in [0, N) (R28, R30, R31),
a fatal FILL_BYTE (R99), and cause NONE exactly while RUNNING (R34). -/
structure State.Inv (s : State) : Prop where
  memCanonical : Memory.wf (Memory.unlisted s.cfg) s.size s.mem = true
  pcInRange : s.pc < s.size
  spInRange : s.sp < s.size
  rasInRange : ∀ j : Fin 16, s.ras[j] < s.size
  fillIsFatal : isFatalByte s.cfg.fillByte = true
  causeNoneIffRunning : s.cause = .none ↔ s.run = .running

/-! ### The end of a run and CORE's outputs -/

/-- The output `halted` (R247). -/
def State.halted (s : State) : Bool := decide (s.run = .halted)

/-- The output `halt_cause` (R247). -/
def State.haltCause (s : State) : Cause := s.cause

/-- How a run ends (R236). -/
inductive RunEnd where
  /-- cause HALT: the normal end, the state is final. -/
  | normal
  /-- A fatal cause: a fault, never a successful final state. -/
  | faulted
  /-- cause ABORT: the host ended the run. -/
  | hostEnded
deriving DecidableEq, Repr

/-- The end a cause stands for; NONE is no end (R236). -/
def Cause.runEnd : Cause → Option RunEnd
  | .none => Option.none
  | .halt => some .normal
  | .undefGpio => some .faulted
  | .undefOpcode => some .faulted
  | .undefSf => some .faulted
  | .abort => some .hostEnded

/-- "A run ends only when run = HALTED" (R236). -/
def State.runEnd (s : State) : Option RunEnd :=
  match s.run with
  | .running => none
  | .halted => s.cause.runEnd

/-- The host's exit status, as far as the spec fixes it (R254, I18): the non-zero value is the host's. -/
inductive ExitStatus where
  | zero
  | nonzero
deriving DecidableEq, Repr

/-- The exit status of an ended run (R254). -/
def RunEnd.exitStatus : RunEnd → ExitStatus
  | .normal => .zero
  | .faulted => .nonzero
  | .hostEnded => .zero

/-- The pairs the screen collaborator has been given, oldest first (R246). -/
def State.screenOutput (s : State) : List (Byte × Byte) :=
  s.trace.filterMap fun e =>
    match e with
    | .screenEmit b1 b2 => some (b1, b2)
    | _ => none

/-! ### Debug mode -/

/-- The events only debug mode emits (R250, R252). -/
def Event.isTelemetry : Event → Bool
  | .screenEmit _ _ => false
  | .kbdPoll _ => false
  | .stepWait _ => false
  | .trace _ _ => true
  | .rasAdvisory _ => true
  | .diagnostic _ => false

/-- A state with DEBUG cleared and the telemetry taken out of its trace: what debug mode may not change (R251). -/
def State.withoutTelemetry (s : State) : State :=
  { s with cfg := { s.cfg with debug := false }, trace := s.trace.filter fun e => !e.isTelemetry }

/-- Two outcomes that differ at most in DEBUG and in telemetry. -/
def agreeButTelemetry : Host.Outcome State Fault Refusal → Host.Outcome State Fault Refusal → Prop
  | .next s, .next t => s.withoutTelemetry = t.withoutTelemetry
  | .fault f, .fault g => f = g
  | .refused q, .refused r => q = r
  | _, _ => False

/-! ### What a list of writes leaves -/

/-- The byte of the last write in the list whose address is `a` modulo N, if there is one: what `M <- M'` leaves at `a` (R131
point 3, R61). -/
def lastWriteTo (size a : Nat) : List Host.Cell → Option Byte
  | [] => none
  | (addr, v) :: rest =>
    match lastWriteTo size a rest with
    | some later => some later
    | none => if addr % size = a % size then some v else none

/-! ### Who may write what -/

/-- The instructions that may write a general-purpose register (R23). -/
def mayWriteRegs : Instr → Bool
  | .sacc _ | .lsr _ _ | .movb _ _ _ | .ld8 _ | .rkbd _ => true
  | _ => false

/-- The instructions that may write memory (R64). -/
def mayWriteMemory : Instr → Bool
  | .sacc _ | .lsr _ _ | .stk _ | .movb _ _ _ | .st8 _ => true
  | _ => false

/-- The instruction that writes an ALU input (R24). -/
def writesAluInput : Instr → Bool
  | .ldal _ _ => true
  | _ => false

/-- The instruction that writes FLAGS (R26). -/
def writesFlags : Instr → Bool
  | .alu _ => true
  | _ => false

/-- The instructions that write ACC (R25). -/
def writesAcc : Instr → Bool
  | .alu _ | .stk _ => true
  | _ => false

/-- The instructions that write SP (R30). -/
def writesSp : Instr → Bool
  | .stk _ | .ssp _ _ => true
  | _ => false

/-- The instruction that writes a RAS slot (R31). -/
def writesRas : Instr → Bool
  | .jsr _ _ => true
  | _ => false

/-- The instruction that writes KBD (R27; the poll of the gap phase is no instruction). -/
def writesKbd : Instr → Bool
  | .ckbd => true
  | _ => false

/-- The instructions that halt, with their cause (R33, R34). -/
def haltingCause : Instr → Option Cause
  | .hlt => some .halt
  | .undefGpioB _ | .undefGpioC _ => some .undefGpio
  | .undefD _ | .undefE _ => some .undefOpcode
  | .undefSf7 | .undefSf8to15 _ => some .undefSf
  | _ => none

/-- The instructions that overwrite pc with a target (R29: "jumps, calls and returns overwrite pc"). -/
def overwritesPc : Instr → Bool
  | .jmp _ _ | .jcc _ _ | .jsr _ _ | .rts _ => true
  | _ => false

/-- The instructions that may emit an event of their own: WSCR (R206) and the fatal ones (R231). -/
def mayEmit : Instr → Bool
  | .wscr _ _ | .undefGpioB _ | .undefGpioC _ | .undefD _ | .undefE _ | .undefSf7 | .undefSf8to15 _ => true
  | _ => false

/-! ### Chains of calls and returns -/

/-- A call: where its JSR stands, the JSR's trait, and where it goes. -/
structure Call where
  pc : Nat
  t : Nibble
  target : Addr16
deriving DecidableEq, Repr

/-- The return address of a call in an address space of `n` bytes (R180). -/
def Call.returnAddress (n : Nat) (c : Call) : Nat := (c.pc + 3) % n

/-- The JSRs of a list of calls executed one after the other, none returned from. -/
def nestCalls : List Call → State → Host.Outcome State Fault Refusal
  | [], s => .next s
  | c :: rest, s =>
    match exec (.jsr c.t c.target) { s with pc := c.pc } with
    | .next t => nestCalls rest t
    | .fault f => .fault f
    | .refused r => .refused r

/-- The pcs that `k` RTSs executed one after the other go to. -/
def returnTargets : Nat → State → List Nat
  | 0, _ => []
  | k + 1, s =>
    match exec (.rts 0) s with
    | .next t => t.pc :: returnTargets k t
    | _ => []

end Sys2Proof.Machine
end

