-- ==== Sys2Proof/Certificates/Slice0/Obligations.lean ====
section
/-! DEFINITION. The statements about INDEX-CORE for the provers. Each docstring names the rule of spec/ it formalises; where a
clause rests on one of the spec's own decisions (D<n>), on a rule the spec marks derived, or on a choice of the model (log <n>),
the docstring says so. `b k` is the byte k places after an instruction byte, as the decoder sees it. -/

open Sys2Proof Sys2Proof.Machine

/-! ### The step -/

/-- R120, R121: after a gap phase that ends in `ready`, the step is the handler of the instruction the bytes at pc decode to,
then the retire step. Rests on the spec's decisions D23 and D24 for the gap phase's place. -/
def Obligations.StepRunsDecodedInstruction : Prop :=
  ∀ (s t : State) (i : Instr) (rest : List Byte),
    s.run = .running → s.gapPhase = .ready t → decode (t.bytesAt t.pc maxWidth) = .ok (i, rest) →
    step s =
      match exec i t with
      | .next u => .next (u.retire i)
      | .fault f => .fault f
      | .refused r => .refused r

/-- R124: "A halted machine has no step." -/
def Obligations.HaltedMachineHasNoStep : Prop :=
  ∀ s t : State, s.run = .halted → step s ≠ .next t

/-- A step exists exactly while RUNNING (R120, R124): no access, return, open slot, keyboard poll or screen output stops a running
CORE (R61, R230, R245, R246). For a running state in STEP_MODE whose console has not answered, that there is a next state rests on
the model's choice of log 7: R248 and I16 give there a hold that completes no step. -/
def Obligations.StepExistsExactlyWhileRunning : Prop :=
  ∀ s : State, (∃ t, step s = .next t) ↔ s.run = .running

/-- R236 and R254: the three ends of a run and their exit status (the zero statuses are the spec's decision D36), and R34's codes (its
decision D25). That a step of
a halted machine is the fault naming the cause is the model's choice, log 11. -/
def Obligations.RunEndsByCause : Prop :=
  ∀ s : State,
    (s.run = .running → s.runEnd = none) ∧
    (s.run = .halted →
      step s = .fault (.halted s.cause) ∧
      (s.runEnd = some .normal ↔ s.cause = .halt) ∧
      (s.runEnd = some .faulted ↔ s.cause = .undefGpio ∨ s.cause = .undefOpcode ∨ s.cause = .undefSf) ∧
      (s.runEnd = some .hostEnded ↔ s.cause = .abort) ∧
      (s.runEnd.map RunEnd.exitStatus = some .nonzero ↔ s.cause.isFatal = true)) ∧
    Cause.none.code = 0 ∧ Cause.halt.code = 1 ∧ Cause.undefGpio.code = 2 ∧ Cause.undefOpcode.code = 3 ∧
    Cause.undefSf.code = 4 ∧ Cause.abort.code = 5

/-- R248, R249, R238: the single-step wait. ABORT halts before the poll and the fetch and emits no Diagnostic; CONTINUE goes on
to the poll. That a look finds the script's entry and past its end a free value, and that an unanswered wait is a step that changes
nothing but the count of looks, is the model's choice, log 7. -/
def Obligations.SingleStepWaitAnswers : Prop :=
  ∀ s : State, s.run = .running → s.cfg.stepMode = true →
    (s.consoleFinds = some .abort →
      step s = .next { s with
        run := .halted, cause := .abort, trace := s.trace ++ [.stepWait .abort],
        env := { s.env with waits := s.env.waits + 1 } }) ∧
    (s.consoleFinds = some .continue →
      s.gapPhase = .ready (State.pollKeyboard { s with
        trace := s.trace ++ [.stepWait .continue], env := { s.env with waits := s.env.waits + 1 } })) ∧
    (s.consoleFinds = none →
      step s = .next { s with env := { s.env with waits := s.env.waits + 1 } }) ∧
    (∀ h : s.env.waits < s.env.ackScript.length, s.consoleFinds = s.env.ackScript[s.env.waits]) ∧
    (s.env.ackScript.length ≤ s.env.waits → s.consoleFinds = ackOfFree (Config.consoleAnswer s.env.waits))

/-- R245: one poll per gap phase when KBD_EN, a byte ORed in whole, and no poll otherwise (the spec's decisions D22, D23). The first
clauses say what a poll does to any state; the last two that a gap phase without STEP_MODE is that poll and nothing else, and that
one whose console answers CONTINUE is StepWait(CONTINUE) and then that poll (R248, the order is D24). ABORT, after which there is
no poll, is `SingleStepWaitAnswers`. That a poll's result is the script's entry and past its end a free value is the model's
choice, log 6; that a look at the console advances a count is log 7. -/
def Obligations.KeyboardPollOrsTheByteIn : Prop :=
  ∀ s : State,
    (s.cfg.kbdEn = false → s.pollKeyboard = s) ∧
    (s.cfg.kbdEn = true → ∀ byte, s.pollReturns = some byte →
      s.pollKeyboard = { s with
        kbd := s.kbd ||| byte, trace := s.trace ++ [.kbdPoll (some byte)],
        env := { s.env with polls := s.env.polls + 1 } }) ∧
    (s.cfg.kbdEn = true → s.pollReturns = none →
      s.pollKeyboard = { s with
        trace := s.trace ++ [.kbdPoll none], env := { s.env with polls := s.env.polls + 1 } }) ∧
    (∀ h : s.env.polls < s.env.kbdScript.length, s.pollReturns = s.env.kbdScript[s.env.polls]) ∧
    (s.env.kbdScript.length ≤ s.env.polls → s.pollReturns = Config.kbdPoll s.env.polls) ∧
    (s.cfg.stepMode = false → s.gapPhase = .ready s.pollKeyboard) ∧
    (s.cfg.stepMode = true → s.consoleFinds = some .continue →
      s.gapPhase = .ready (State.pollKeyboard { s with
        trace := s.trace ++ [.stepWait .continue], env := { s.env with waits := s.env.waits + 1 } }))

/-- R207's corner case, which the spec marks derived: with KBD_EN false nothing sets a bit of KBD (that there is then no poll is the
spec's decision D22). -/
def Obligations.KbdStaysZeroWhileDisabled : Prop :=
  ∀ s t : State, step s = .next t → s.cfg.kbdEn = false → s.kbd = 0 → t.kbd = 0

/-- R27: the poll ORs into KBD, RKBD only reads it, CKBD clears it, "Nothing else reads or writes it". So a step whose
instruction is not CKBD loses no bit of KBD. -/
def Obligations.KbdBitsLastUntilCkbd : Prop :=
  ∀ s t : State, step s = .next t → (∀ u, s.gapPhase = .ready u → u.fetch ≠ .ckbd) → s.kbd &&& t.kbd = s.kbd

/-- R10: "emit E appends event E to the run's event trace": a step only appends. -/
def Obligations.StepOnlyAppendsToTrace : Prop :=
  ∀ s t : State, step s = .next t → ∃ new, t.trace = s.trace ++ new

/-- R7, R62: configuration and N do not change during a run (sampled at reset by the spec's decision D42). That they are a field of
State, with FILL_BYTE and the bindings of the open functions, is the model's choice, log 1. -/
def Obligations.StepKeepsParameters : Prop :=
  ∀ s t : State, step s = .next t → t.cfg = s.cfg ∧ t.size = s.size

/-- R35, R123 (the spec's decision D27): ICOUNT counts the instructions that leave the machine RUNNING, modulo 2^64. -/
def Obligations.IcountCountsCompletedInstructions : Prop :=
  ∀ s t : State, step s = .next t →
    (∀ u, s.gapPhase = .ready u →
      t.icount.toNat = if t.run = .running then (s.icount.toNat + 1) % 2 ^ 64 else s.icount.toNat) ∧
    (∀ u, s.gapPhase = .done u → t.icount = s.icount)

/-- R123: everything the retire step does. It counts an instruction that leaves the machine RUNNING (R35, the spec's decision D27), it
adds Trace and RasAdvisory to the trace (R250, R252, its decisions D28, D29), and every other field is as it was. ASP as a signed
32-bit counter is D4, as the model takes it log 9; the trace as a field is log 5. -/
def Obligations.RetireEmitsTelemetryInDebugModeOnly : Prop :=
  ∀ (s : State) (i : Instr),
    s.retire i = { s with
      icount := if s.run = .running then s.icount + 1 else s.icount, trace := (s.retire i).trace } ∧
    (s.cfg.debug = false → (s.retire i).trace = s.trace) ∧
    (s.cfg.debug = true →
      ((∃ t addr, i = .jsr t addr) ∨ (∃ t, i = .rts t)) → (s.asp.toInt < 0 ∨ 16 ≤ s.asp.toInt) →
      (s.retire i).trace = s.trace ++ [.trace s.pc (s.retire i).icount, .rasAdvisory s.asp.toInt]) ∧
    (s.cfg.debug = true →
      ((∀ t addr, i ≠ .jsr t addr) ∧ (∀ t, i ≠ .rts t)) ∨ (0 ≤ s.asp.toInt ∧ s.asp.toInt < 16) →
      (s.retire i).trace = s.trace ++ [.trace s.pc (s.retire i).icount])

/-- R251, which the spec marks derived: two states that differ only in DEBUG and telemetry step to states that differ only in
DEBUG and telemetry. -/
def Obligations.DebugModeChangesOnlyTelemetry : Prop :=
  ∀ s t : State, s.withoutTelemetry = t.withoutTelemetry → agreeButTelemetry (step s) (step t)

/-- R176's last sentences, which the spec marks derived: under the SOURCE binding no step writes FLAGS or ACC. -/
def Obligations.SourceBindingKeepsFlagsAndAcc : Prop :=
  ∀ s t : State, s.cfg.openSlots = .source → step s = .next t → t.flags = s.flags ∧ t.acc = s.acc

/-! ### Reset and boot -/

/-- R38's table, for every configuration, memory and environment; the values of pc, SP, RAS, ASP, run, cause and ICOUNT are the
spec's decisions D2 to D5, D27 and D32. The model's choices: the configuration of `State.reset` and its filler, log 2; the empty
trace and `Env.fresh`, fields R38's table does not name, log 8. -/
def Obligations.ResetLeavesTheTabledValues : Prop :=
  (∀ (cfg : Config.Params) (mem : Memory) (env : Env),
    (∀ i : Fin 8, (State.resetWith cfg mem env).x[i] = 0) ∧
    (State.resetWith cfg mem env).a = 0 ∧ (State.resetWith cfg mem env).b = 0 ∧
    (State.resetWith cfg mem env).acc = 0 ∧ (State.resetWith cfg mem env).flags = 0 ∧
    (State.resetWith cfg mem env).kbd = 0 ∧ (State.resetWith cfg mem env).pc = 0 ∧
    (State.resetWith cfg mem env).sp = 0 ∧ (∀ j : Fin 16, (State.resetWith cfg mem env).ras[j] = 0) ∧
    (State.resetWith cfg mem env).asp = 0 ∧ (State.resetWith cfg mem env).run = .running ∧
    (State.resetWith cfg mem env).cause = .none ∧ (State.resetWith cfg mem env).icount = 0 ∧
    (State.resetWith cfg mem env).mem = mem ∧ (State.resetWith cfg mem env).trace = []) ∧
  State.reset = State.resetWith commonParams [] Env.fresh ∧
  (∀ addr, State.reset.readByte addr = 0xFF)

/-- R271: with an option left unset there is no run. -/
def Obligations.BootNeedsEveryOption : Prop :=
  ∀ r : BootRequest, (r.debug = none ∨ r.stepMode = none ∨ r.screenEn = none ∨ r.kbdEn = none) →
    boot r = .error .optionUnset

/-- R272, R273 (N = L for an accepted longer image is the spec's decision D31): memory, N and every parameter after reset (R6, R7) are
those of the request. A longer image was accepted, and FILL_BYTE is fatal (R99, D30; that boot itself refuses another is the model's
choice, log 12). Every other field has its reset value. -/
def Obligations.BootLoadsImageThenFiller : Prop :=
  ∀ (r : BootRequest) (s : State), boot r = .ok s →
    s.size = max 65536 r.image.length ∧
    (∀ (k : Nat) (h : k < r.image.length), s.readByte k = r.image[k]) ∧
    (∀ k : Nat, r.image.length ≤ k → k < s.size → s.readByte k = r.fillByte) ∧
    r.debug = some s.cfg.debug ∧ r.stepMode = some s.cfg.stepMode ∧
    r.screenEn = some s.cfg.screenEn ∧ r.kbdEn = some s.cfg.kbdEn ∧
    s.cfg.fillByte = r.fillByte ∧ s.cfg.openSlots = r.openSlots ∧ s.cfg.cond = r.cond ∧
    (r.image.length ≤ 65536 ∨ r.operatorAccepts = true) ∧ isFatalByte r.fillByte = true ∧
    s = State.resetWith s.cfg s.mem r.env

/-- R270 to R272: with the options given and a fatal filler (R99, D30), an image that fits or is accepted boots into a state that
meets the invariant; an oversized image the operator rejects gives no run. -/
def Obligations.BootSettlesWithGivenOptions : Prop :=
  ∀ (r : BootRequest) (d st sc k : Bool),
    r.debug = some d → r.stepMode = some st → r.screenEn = some sc → r.kbdEn = some k → isFatalByte r.fillByte = true →
    ((r.image.length ≤ 65536 ∨ r.operatorAccepts = true) → ∃ s, boot r = .ok s ∧ s.Inv) ∧
    (65536 < r.image.length → r.operatorAccepts = false → boot r = .error .imageRejected)

/-- The invariant holds at reset (its canonical form of memory is the model's, log 12; its configuration and filler are log 2). -/
def Obligations.ResetMeetsInvariant : Prop := State.reset.Inv

/-- Every step keeps the invariant, from every state that meets it: memory canonical (the model's form, log 12), pc, SP and RAS in
[0, N) (R28, which is the spec's decision D1, R30, R31), FILL_BYTE fatal (R99), cause NONE exactly while RUNNING (R34). -/
def Obligations.StepKeepsInvariant : Prop :=
  ∀ s t : State, s.Inv → step s = .next t → t.Inv

/-! ### Memory -/

/-- R61, R63, R67: reads wrap modulo N, a read gives the last byte written there, and a write leaves every other byte. -/
def Obligations.MemoryWrapsAndHoldsTheLastWrite : Prop :=
  ∀ (s : State) (a b : Nat) (v : Byte),
    s.readByte a = s.readByte (a % s.size) ∧
    (b % s.size = a % s.size → (s.writeByte a v).readByte b = v) ∧
    (b % s.size ≠ a % s.size → (s.writeByte a v).readByte b = s.readByte b)

/-- R74, R75, which the spec marks derived: the fetch after an ST8 decodes the bytes it stored. That these are x[0] to x[7], in order
from p + 1 on, is R204 with the spec's decision D40 (log 13). -/
def Obligations.StoredBytesAreFetchedNext : Prop :=
  ∀ (d : Octet) (s t v : State), exec (.st8 d) s = .next t → v.mem = t.mem → v.cfg = t.cfg → v.pc = (s.pc + 1) % s.size →
    v.fetch = decodeBytes (fun k => if h : k < 8 then s.x[k] else s.readByte (s.pc + 1 + k))

/-! ### Encoding -/

/-- Every instruction is read back from its encoding, whatever bytes follow (R92, R95). -/
def Obligations.DecodeInvertsEncode : Prop :=
  ∀ (i : Instr) (rest : List Byte), decode (encode i ++ rest) = .ok (i, rest)

/-- Every decoding consumes exactly the encoding of what it gives: no bit is dropped (R92, R95). -/
def Obligations.EncodeInvertsDecode : Prop :=
  ∀ (bytes : List Byte) (i : Instr) (rest : List Byte), decode bytes = .ok (i, rest) → encode i ++ rest = bytes

/-- R96, which the spec marks derived: each byte value is in exactly one row of the opcode table, and the decoder gives that
row's instruction and width. -/
def Obligations.OpcodeMapIsComplete : Prop :=
  ∀ b : Nat → Byte,
    (opcodeTable.filter fun row => row.holds (b 0)).length = 1 ∧
    ∃ row, opcodeTable[(decodeBytes b).tableIndex]? = some row ∧ row.holds (b 0) = true ∧ row.width = (decodeBytes b).width

/-- R91: lengths 1, 2, 3 or 9, known from the instruction byte alone, and from `op` alone except under 0xF; no byte past the
length matters. -/
def Obligations.WidthComesFromTheInstructionByte : Prop :=
  ∀ b : Nat → Byte,
    (decodeBytes b).width = widthOf (b 0) ∧
    (widthOf (b 0) = 1 ∨ widthOf (b 0) = 2 ∨ widthOf (b 0) = 3 ∨ widthOf (b 0) = 9) ∧
    (∀ b' : Nat → Byte, (∀ k, k < widthOf (b 0) → b' k = b k) → decodeBytes b' = decodeBytes b) ∧
    (∀ ib : Byte, opcodeOf ib = opcodeOf (b 0) → opcodeOf ib ≠ 0xF → widthOf ib = widthOf (b 0)) ∧
    (∀ ib : Byte, opcodeOf ib = opcodeOf (b 0) → traitOf ib = traitOf (b 0) → widthOf ib = widthOf (b 0))

/-- R90: `op = ib >> 4`, `t = ib & 0x0F`, and no byte value fails to decode. -/
def Obligations.DecoderSplitsEveryByte : Prop :=
  ∀ (ib : Byte) (rest : List Byte),
    (opcodeOf ib).toNat = ib.toNat / 16 ∧ (traitOf ib).toNat = ib.toNat % 16 ∧
    (widthOf ib ≤ rest.length + 1 → ∃ r, decode (ib :: rest) = .ok r)

/-- R98, R230 (the cause codes are the spec's decision D25): exactly the bytes 0xB0 to 0xEF and 0xF7 to 0xFF are fatal, each range
with its cause. -/
def Obligations.FatalExactlyOnTheFatalBytes : Prop :=
  ∀ (b : Nat → Byte) (s : State), s.cause = .none →
    ∃ t, exec (decodeBytes b) s = .next t ∧
      (t.cause = .undefGpio ↔ 0xB0 ≤ (b 0).toNat ∧ (b 0).toNat ≤ 0xCF) ∧
      (t.cause = .undefOpcode ↔ 0xD0 ≤ (b 0).toNat ∧ (b 0).toNat ≤ 0xEF) ∧
      (t.cause = .undefSf ↔ 0xF7 ≤ (b 0).toNat) ∧
      (isFatalByte (b 0) = true ↔ t.cause.isFatal = true)

/-- A few words written out bit by bit from R92's formats (R95), their operands as R93 assembles them. That 0x0B is LDAL of B is the
spec's decision D9 (log 13); that the ignored trait of 0xB7 and the low bits of 0xFD stand in the instruction is log 14. -/
def Obligations.SampleWordsDecode : Prop :=
  decode [0b00001011#8] = .ok (.ldal .b 3, []) ∧
  decode [0b01100001#8, 0b11111110#8] = .ok (.jcc 1 0xFE, []) ∧
  decode [0b10010000#8, 0b00100000#8, 0b00000000#8] = .ok (.jsr 0 0x2000, []) ∧
  decode [0b10110111#8] = .ok (.undefGpioB 7, []) ∧
  decode [0b11110101#8, 0b00000010#8] = .ok (.rkbd 2, []) ∧
  decode [0b11111101#8] = .ok (.undefSf8to15 5, [])

/-- R100's table (the syntax is the spec's decision D35, A as s = 0 its D9): the bytes each line assembles to, in plain numbers. Lines
are abstract, not text (log 16). -/
def Obligations.LinesAssembleAsTabled : Prop :=
  ∀ p : Nat,
    (∀ r, r < 8 → assemble p (.ldal .a r) = [BitVec.ofNat 8 r] ∧ assemble p (.ldal .b r) = [BitVec.ofNat 8 (8 + r)] ∧
      assemble p (.rkbd r) = [0xF5, BitVec.ofNat 8 r]) ∧
    (∀ t, t < 16 → assemble p (.sacc t) = [BitVec.ofNat 8 (0x10 + t)] ∧ assemble p (.alu t) = [BitVec.ofNat 8 (0x30 + t)] ∧
      assemble p (.stk t) = [BitVec.ofNat 8 (0x40 + t)]) ∧
    (∀ t addr, t < 16 → addr < 65536 →
      assemble p (.lsr t addr) = [BitVec.ofNat 8 (0x20 + t), BitVec.ofNat 8 (addr / 256), BitVec.ofNat 8 (addr % 256)]) ∧
    (∀ addr, addr < 65536 →
      assemble p (.jmp addr) = [0x50, BitVec.ofNat 8 (addr / 256), BitVec.ofNat 8 (addr % 256)] ∧
      assemble p (.ssp addr) = [0x80, BitVec.ofNat 8 (addr / 256), BitVec.ofNat 8 (addr % 256)] ∧
      assemble p (.jsr addr) = [0x90, BitVec.ofNat 8 (addr / 256), BitVec.ofNat 8 (addr % 256)]) ∧
    (∀ c target, (Asm.jcc c target).wellFormed p = true →
      assemble p (.jcc c target) = [BitVec.ofNat 8 (0x60 + c), BitVec.ofNat 8 ((target + 256 - p) % 256)]) ∧
    (∀ t b1 b2, t < 16 → assemble p (.movb t b1 b2) = [BitVec.ofNat 8 (0x70 + t), BitVec.ofNat 8 b1, BitVec.ofNat 8 b2]) ∧
    (∀ b1 b2, assemble p (.wscr b1 b2) = [0xF4, BitVec.ofNat 8 b1, BitVec.ofNat 8 b2]) ∧
    (∀ d : List Nat, isOctet d = true →
      assemble p (.ld8 d) = 0xF1 :: d.map (BitVec.ofNat 8) ∧ assemble p (.st8With d) = 0xF2 :: d.map (BitVec.ofNat 8)) ∧
    assemble p .rts = [0xA0] ∧ assemble p .hlt = [0xF0] ∧ assemble p .st8 = 0xF2 :: List.replicate 8 0 ∧
    assemble p .nop = [0xF3] ∧ assemble p .ckbd = [0xF6] ∧ (∀ v, assemble p (.byte v) = [BitVec.ofNat 8 v])

/-- R100 with R175 (the syntax is the spec's decision D35, the jump's base D7): a JCC assembled at its own address for a target
within reach goes to that target when it is taken. -/
def Obligations.AssembledJccReachesItsTarget : Prop :=
  ∀ (s : State) (c target : Nat), (Asm.jcc c target).wellFormed s.pc = true →
    ∃ i, decode (assemble s.pc (.jcc c target)) = .ok (i, []) ∧
      (s.condHolds (BitVec.ofNat 4 c) = true → ∃ u, exec i s = .next u ∧ u.pc = target % s.size)

/-! ### The instructions: encoding, result and completion -/

/-- R132 (which value of s picks A is the spec's decision D9). -/
def Obligations.LdalLoadsTheSelectedInput : Prop :=
  ∀ (s : State) (r : RegIdx) (b : Nat → Byte),
    (b 0 = 0x0#4 ++ (0#1 ++ r) →
      decodeBytes b = .ldal .a r ∧
      exec (.ldal .a r) s = .next { s with a := s.x[r.toNat]'r.isLt, pc := (s.pc + 1) % s.size }) ∧
    (b 0 = 0x0#4 ++ (1#1 ++ r) →
      decodeBytes b = .ldal .b r ∧
      exec (.ldal .b r) s = .next { s with b := s.x[r.toNat]'r.isLt, pc := (s.pc + 1) % s.size })

/-- R134 with R131 and R135: SACC's effect is SACC_FN's, on the registers and memory alone (the open function and its footprint are
the spec's decision D15); under the SOURCE binding only pc changes. That M' is M with a returned list of writes applied, and that
the state names its binding, is the model's choice, log 3. -/
def Obligations.SaccTakesSaccFnsEffect : Prop :=
  ∀ (s : State) (t : Nibble) (b : Nat → Byte), b 0 = 0x1#4 ++ t →
    decodeBytes b = .sacc t ∧
    ∃ u, exec (.sacc t) s = .next u ∧
      u = { s with x := u.x, mem := u.mem, pc := (s.pc + 1) % s.size } ∧
      (s.cfg.openSlots = .free →
        u.x = (Config.saccFn s.size t s.acc s.x s.sp s.readByte).1 ∧
        u.mem = (s.applyWrites (Config.saccFn s.size t s.acc s.x s.sp s.readByte).2).mem) ∧
      (s.cfg.openSlots = .source → u.x = s.x ∧ u.mem = s.mem)

/-- R138 with R131 and R139: LSR's effect is LSR_FN's, on the registers and memory alone (the open function and its footprint are the
spec's decision D16); under the SOURCE binding only pc changes. M' as a list of writes and the state's binding are log 3. -/
def Obligations.LsrTakesLsrFnsEffect : Prop :=
  ∀ (s : State) (t : Nibble) (b : Nat → Byte), b 0 = 0x2#4 ++ t →
    decodeBytes b = .lsr t (b 1 ++ b 2) ∧
    ∃ u, exec (.lsr t (b 1 ++ b 2)) s = .next u ∧
      u = { s with x := u.x, mem := u.mem, pc := (s.pc + 3) % s.size } ∧
      (s.cfg.openSlots = .free →
        u.x = (Config.lsrFn s.size t (b 1 ++ b 2) s.x s.readByte).1 ∧
        u.mem = (s.applyWrites (Config.lsrFn s.size t (b 1 ++ b 2) s.x s.readByte).2).mem) ∧
      (s.cfg.openSlots = .source → u.x = s.x ∧ u.mem = s.mem)

/-- R142: ACC and FLAGS are wholly ALU_FN's results; nothing else but pc changes. -/
def Obligations.AluTakesAluFnsResults : Prop :=
  ∀ (s : State) (f : Nibble) (b : Nat → Byte), b 0 = 0x3#4 ++ f →
    decodeBytes b = .alu f ∧
    (s.cfg.openSlots = .free →
      exec (.alu f) s = .next { s with
        acc := (Config.aluFn f s.a s.b s.acc s.flags).1, flags := (Config.aluFn f s.a s.b s.acc s.flags).2,
        pc := (s.pc + 1) % s.size }) ∧
    (s.cfg.openSlots = .source → exec (.alu f) s = .next { s with pc := (s.pc + 1) % s.size })

/-- R148 with R131 and R150: ACC, SP reduced modulo N, and memory are STK_FN's results (the open function and its footprint are the
spec's decision D17); under the SOURCE binding ACC and memory are unchanged, and so is an SP in [0, N) (R30). M' as a list of
writes and the state's binding are log 3. -/
def Obligations.StkTakesStkFnsEffect : Prop :=
  ∀ (s : State) (t : Nibble) (b : Nat → Byte), b 0 = 0x4#4 ++ t →
    decodeBytes b = .stk t ∧
    ∃ u, exec (.stk t) s = .next u ∧
      u = { s with acc := u.acc, sp := u.sp, mem := u.mem, pc := (s.pc + 1) % s.size } ∧
      (s.cfg.openSlots = .free →
        u.acc = (Config.stkFn s.size t s.acc s.sp s.readByte).1 ∧
        (u.sp : Int) = (Config.stkFn s.size t s.acc s.sp s.readByte).2.1 % (s.size : Int) ∧
        u.mem = (s.applyWrites (Config.stkFn s.size t s.acc s.sp s.readByte).2.2).mem) ∧
      (s.cfg.openSlots = .source → u.acc = s.acc ∧ u.mem = s.mem ∧ (s.sp < s.size → u.sp = s.sp))

/-- R154 with R131 and R155: MOVB's effect is MOVB_FN's on the raw operand bytes, on the registers and memory alone (the open function
and its footprint are the spec's decision D18); under the SOURCE binding only pc changes. M' as a list of writes and the state's
binding are log 3. -/
def Obligations.MovbTakesMovbFnsEffect : Prop :=
  ∀ (s : State) (t : Nibble) (b : Nat → Byte), b 0 = 0x7#4 ++ t →
    decodeBytes b = .movb t (b 1) (b 2) ∧
    ∃ u, exec (.movb t (b 1) (b 2)) s = .next u ∧
      u = { s with x := u.x, mem := u.mem, pc := (s.pc + 3) % s.size } ∧
      (s.cfg.openSlots = .free →
        u.x = (Config.movbFn s.size t (b 1) (b 2) s.x s.readByte).1 ∧
        u.mem = (s.applyWrites (Config.movbFn s.size t (b 1) (b 2) s.x s.readByte).2).mem) ∧
      (s.cfg.openSlots = .source → u.x = s.x ∧ u.mem = s.mem)

/-- R160: SP becomes {o1, o2}, most significant byte first, for every trait (R160's own clause; R94 marks it D19). -/
def Obligations.SspSetsTheStackPointer : Prop :=
  ∀ (s : State) (t : Nibble) (b : Nat → Byte), b 0 = 0x8#4 ++ t →
    decodeBytes b = .ssp t (b 1 ++ b 2) ∧
    exec (.ssp t (b 1 ++ b 2)) s =
      .next { s with sp := 256 * (b 1).toNat + (b 2).toNat, pc := (s.pc + 3) % s.size }

/-- R170: pc becomes {o1, o2}, for every trait (R170's own clause; R94 marks it D19) and whatever pc was. -/
def Obligations.JmpReplacesPc : Prop :=
  ∀ (s : State) (t : Nibble) (b : Nat → Byte), b 0 = 0x5#4 ++ t →
    decodeBytes b = .jmp t (b 1 ++ b 2) ∧
    exec (.jmp t (b 1 ++ b 2)) s = .next { s with pc := 256 * (b 1).toNat + (b 2).toNat }

/-- R175, R176 (the base p is the spec's decision D7, two's complement its D8 and G1): the jump is taken when COND holds of FLAGS,
to p + off modulo N, and falls through to p + 2 otherwise. COND depends on the selector and FLAGS alone; it is the open function
unless the state names a table, whose bit 16 * c + FLAGS it then is (that a state names its COND is the model's choice, log 4). -/
def Obligations.JccGoesToTargetOrFallsThrough : Prop :=
  ∀ (s : State) (c : Nibble) (b : Nat → Byte), b 0 = 0x6#4 ++ c →
    decodeBytes b = .jcc c (b 1) ∧
    (s.cfg.cond = .free → s.condHolds c = Config.cond c s.flags) ∧
    (∀ bits, s.cfg.cond = .table bits → s.condHolds c = bits.getLsbD (16 * c.toNat + s.flags.toNat)) ∧
    (∀ r : State, r.cfg.cond = s.cfg.cond → r.flags = s.flags → r.condHolds c = s.condHolds c) ∧
    ∃ u, exec (.jcc c (b 1)) s = .next u ∧ u = { s with pc := u.pc } ∧
      (s.condHolds c = true → (u.pc : Int) = ((s.pc : Int) + (b 1).toInt) % (s.size : Int)) ∧
      (s.condHolds c = false → u.pc = (s.pc + 2) % s.size)

/-- R180: the return address p + 3 goes into slot ASP mod 16, ASP counts up and is not reduced modulo 16, pc becomes {o1, o2}. ASP as a
signed 32-bit counter that wraps is the spec's decision D4, as the model takes it log 9. The debug clause is R250's Trace (the
spec's decision D28) and then R252's RasAdvisory of an ASP outside [0, 16) (D29). -/
def Obligations.JsrSavesTheReturnAddress : Prop :=
  ∀ (s : State) (t : Nibble) (b : Nat → Byte), b 0 = 0x9#4 ++ t →
    decodeBytes b = .jsr t (b 1 ++ b 2) ∧
    ∃ u, exec (.jsr t (b 1 ++ b 2)) s = .next u ∧
      u = { s with ras := u.ras, asp := s.asp + 1, pc := 256 * (b 1).toNat + (b 2).toNat } ∧
      (∀ j : Fin 16, u.ras[j] = if (j.val : Int) = s.asp.toInt % 16 then (s.pc + 3) % s.size else s.ras[j]) ∧
      (s.cfg.debug = true → u.asp.toInt < 0 ∨ 16 ≤ u.asp.toInt →
        (u.retire (.jsr t (b 1 ++ b 2))).trace =
          s.trace ++ [.trace u.pc (u.retire (.jsr t (b 1 ++ b 2))).icount, .rasAdvisory u.asp.toInt])

/-- R184: ASP counts down and is not reduced modulo 16, and pc is taken from slot ASP mod 16, which is read and not cleared. ASP as a
signed 32-bit counter that wraps is the spec's decision D4, as the model takes it log 9. The debug clause is R250's Trace (the
spec's decision D28) and then R252's RasAdvisory of an ASP outside [0, 16) (D29). -/
def Obligations.RtsReturnsToTheSavedAddress : Prop :=
  ∀ (s : State) (t : Nibble) (b : Nat → Byte), b 0 = 0xA#4 ++ t →
    decodeBytes b = .rts t ∧
    ∃ u, exec (.rts t) s = .next u ∧
      u = { s with asp := s.asp - 1, pc := u.pc } ∧
      (∀ j : Fin 16, (j.val : Int) = u.asp.toInt % 16 → u.pc = s.ras[j]) ∧
      (s.cfg.debug = true → u.asp.toInt < 0 ∨ 16 ≤ u.asp.toInt →
        (u.retire (.rts t)).trace = s.trace ++ [.trace u.pc (u.retire (.rts t)).icount, .rasAdvisory u.asp.toInt])

/-- R201 (that HLT leaves pc = p is the source's "no PC advance needed" with the spec's decision D26, and that ICOUNT does not
count it D27): HLT halts with cause HALT and no Diagnostic. -/
def Obligations.HltHaltsWithCauseHalt : Prop :=
  ∀ (s : State) (b : Nat → Byte), b 0 = 0xF0 →
    decodeBytes b = .hlt ∧
    exec .hlt s = .next { s with run := .halted, cause := .halt } ∧
    (State.retire { s with run := .halted, cause := .halt } .hlt).icount = s.icount

/-- R203 (byte i to register i is the spec's decision D40). -/
def Obligations.Ld8LoadsTheNextEightBytes : Prop :=
  ∀ (s : State) (b : Nat → Byte), b 0 = 0xF1 →
    decodeBytes b = .ld8 (octetOf b) ∧
    ∃ u, exec (.ld8 (octetOf b)) s = .next u ∧
      u = { s with x := u.x, pc := (s.pc + 9) % s.size } ∧ (∀ i : Fin 8, u.x[i] = b (i.val + 1))

/-- R204 (register i to cell i is the spec's decision D40): the eight cells after the instruction byte are written and every other
byte of memory, the instruction byte among them, is unchanged. -/
def Obligations.St8StoresIntoTheNextEightCells : Prop :=
  ∀ (s : State) (b : Nat → Byte), b 0 = 0xF2 →
    decodeBytes b = .st8 (octetOf b) ∧
    ∃ u, exec (.st8 (octetOf b)) s = .next u ∧
      u = { s with mem := u.mem, pc := (s.pc + 9) % s.size } ∧
      (∀ i : Fin 8, u.readByte (s.pc + 1 + i.val) = s.x[i]) ∧
      (∀ a : Nat, (∀ i : Fin 8, a % s.size ≠ (s.pc + 1 + i.val) % s.size) → u.readByte a = s.readByte a) ∧
      u.readByte s.pc = s.readByte s.pc

/-- R205: NOP only advances pc. A step that runs it goes through the gap phase before it and the retire step after it, so ICOUNT
increments and a keyboard byte that the poll returns is ORed in. -/
def Obligations.NopOnlyAdvances : Prop :=
  ∀ (s : State) (b : Nat → Byte), b 0 = 0xF3 →
    decodeBytes b = .nop ∧
    exec .nop s = .next { s with pc := (s.pc + 1) % s.size } ∧
    (s.run = .running → (State.retire { s with pc := (s.pc + 1) % s.size } .nop).icount = s.icount + 1) ∧
    (∀ u, s.run = .running → s.gapPhase = .ready u → u.readByte u.pc = 0xF3 →
      ∃ t, step s = .next t ∧ t = State.retire { u with pc := (u.pc + 1) % u.size } .nop ∧
        t.pc = (s.pc + 1) % s.size ∧ t.icount = s.icount + 1 ∧
        (s.cfg.kbdEn = true → ∀ byte, s.pollReturns = some byte → t.kbd = s.kbd ||| byte))

/-- R206 (nothing is emitted without SCREEN_EN: the spec's decision D21). -/
def Obligations.WscrEmitsThePairWhenEnabled : Prop :=
  ∀ (s : State) (b : Nat → Byte), b 0 = 0xF4 →
    decodeBytes b = .wscr (b 1) (b 2) ∧
    (s.cfg.screenEn = true →
      exec (.wscr (b 1) (b 2)) s =
        .next { s with trace := s.trace ++ [.screenEmit (b 1) (b 2)], pc := (s.pc + 3) % s.size }) ∧
    (s.cfg.screenEn = false → exec (.wscr (b 1) (b 2)) s = .next { s with pc := (s.pc + 3) % s.size })

/-- R207 (an index byte above 7 uses its low three bits: the spec's decision D20): KBD goes to that register and stays. -/
def Obligations.RkbdCopiesKbdToTheRegister : Prop :=
  ∀ (s : State) (b : Nat → Byte), b 0 = 0xF5 →
    decodeBytes b = .rkbd (b 1) ∧
    ∃ u, exec (.rkbd (b 1)) s = .next u ∧
      u = { s with x := u.x, pc := (s.pc + 2) % s.size } ∧
      (∀ i : Fin 8, u.x[i] = if i.val = (b 1).toNat % 8 then s.kbd else s.x[i])

/-- R208: CKBD clears KBD; what the channel still holds is untouched. -/
def Obligations.CkbdClearsKbd : Prop :=
  ∀ (s : State) (b : Nat → Byte), b 0 = 0xF6 →
    decodeBytes b = .ckbd ∧ exec .ckbd s = .next { s with kbd := 0, pc := (s.pc + 1) % s.size }

/-- R190 to R194: for every trait, opcodes 0xB and 0xC are fatal with cause UNDEF_GPIO (code 2), 0xD and 0xE with UNDEF_OPCODE
(code 3): HALTED, a Diagnostic, nothing else changed, ICOUNT not counted, a non-zero exit (the rules' own clauses; R195 marks
the distinct codes D25). -/
def Obligations.ReservedOpcodesAreFatal : Prop :=
  ∀ (s : State) (t : Nibble) (b : Nat → Byte),
    (∀ c i, (b 0 = 0xB#4 ++ t ∧ c = Cause.undefGpio ∧ i = Instr.undefGpioB t) ∨
        (b 0 = 0xC#4 ++ t ∧ c = Cause.undefGpio ∧ i = Instr.undefGpioC t) ∨
        (b 0 = 0xD#4 ++ t ∧ c = Cause.undefOpcode ∧ i = Instr.undefD t) ∨
        (b 0 = 0xE#4 ++ t ∧ c = Cause.undefOpcode ∧ i = Instr.undefE t) →
      decodeBytes b = i ∧
      ∃ u, exec i s = .next u ∧
        u = { s with run := .halted, cause := c, trace := s.trace ++ [.diagnostic c] } ∧
        (u.retire i).icount = s.icount ∧ u.runEnd.map RunEnd.exitStatus = some .nonzero) ∧
    Cause.undefGpio.code = 2 ∧ Cause.undefOpcode.code = 3

/-- R209: 0xF7 to 0xFF are fatal with cause UNDEF_SF (code 4). -/
def Obligations.UndefinedSpecialFunctionsAreFatal : Prop :=
  ∀ (s : State) (x : BitVec 3) (b : Nat → Byte),
    (∀ i, (b 0 = 0xF7 ∧ i = Instr.undefSf7) ∨ (b 0 = 0xF#4 ++ (1#1 ++ x) ∧ i = Instr.undefSf8to15 x) →
      decodeBytes b = i ∧
      ∃ u, exec i s = .next u ∧
        u = { s with run := .halted, cause := .undefSf, trace := s.trace ++ [.diagnostic .undefSf] } ∧
        (u.retire i).icount = s.icount) ∧
    Cause.undefSf.code = 4

/-- R231: what `raise Fatal(c)` does, and what the host sees of it. -/
def Obligations.RaiseFatalHaltsAndReports : Prop :=
  ∀ (s : State) (c : Cause), c.isFatal = true →
    s.raiseFatal c = { s with run := .halted, cause := c, trace := s.trace ++ [.diagnostic c] } ∧
    (s.raiseFatal c).halted = true ∧ (s.raiseFatal c).haltCause = c ∧
    (s.raiseFatal c).runEnd.map RunEnd.exitStatus = some .nonzero

/-! ### Frames: who may write what -/

/-- R23 to R26 (R23 is marked derived): only SACC, LSR, MOVB, LD8 and RKBD write a general-purpose register; only LDAL an ALU
input; only ALU and STK the accumulator; only ALU the flags. The footprints of SACC, LSR, STK and MOVB are the spec's decisions D15
to D18. -/
def Obligations.OnlyNamedInstructionsWriteRegisters : Prop :=
  ∀ (i : Instr) (s t : State), exec i s = .next t →
    (mayWriteRegs i = false → t.x = s.x) ∧
    (writesAluInput i = false → t.a = s.a ∧ t.b = s.b) ∧
    (writesAcc i = false → t.acc = s.acc) ∧
    (writesFlags i = false → t.flags = s.flags)

/-- R27, R30 to R34: only STK and SSP write SP; only JSR writes a RAS slot; only JSR and RTS write ASP; of the instructions only
CKBD writes KBD; only the halting ones write run and cause. STK's footprint is the spec's decision D17. -/
def Obligations.OnlyNamedInstructionsWriteControlState : Prop :=
  ∀ (i : Instr) (s t : State), exec i s = .next t →
    (writesSp i = false → t.sp = s.sp) ∧
    (writesRas i = false → t.ras = s.ras) ∧
    (changesAsp i = false → t.asp = s.asp) ∧
    (writesKbd i = false → t.kbd = s.kbd) ∧
    (haltingCause i = none → t.run = s.run ∧ t.cause = s.cause) ∧
    (∀ c, haltingCause i = some c → t.run = .halted ∧ t.cause = c)

/-- R35, R123, R206, R231: no handler writes ICOUNT, and only WSCR and the fatal encodings emit. No handler writes the parameters, which
do not change during a run (R7, R62), or the environment, which only the gap phase draws from (R120, R245, R248). That parameters,
trace and environment are fields of State is the model's choice: logs 1, 5, 6 and 7. -/
def Obligations.HandlersLeaveCountParametersAndTrace : Prop :=
  ∀ (i : Instr) (s t : State), exec i s = .next t →
    t.icount = s.icount ∧ t.cfg = s.cfg ∧ t.env = s.env ∧ (mayEmit i = false → t.trace = s.trace)

/-- R64: an instruction that is not SACC, LSR, STK, MOVB or ST8 leaves every byte of memory as it was (that ALU_FN has no memory in its
footprint is R146). -/
def Obligations.OtherInstructionsLeaveMemory : Prop :=
  ∀ (i : Instr) (s t : State), exec i s = .next t → mayWriteMemory i = false → ∀ a, t.readByte a = s.readByte a

/-- R131 point 3, R61 and `M <- M'`: an open slot writes memory only at the addresses its function returns, reduced modulo N, and there
it leaves the byte of the last write the function returns (that M' is given as a list of writes, made in order, is the model's
choice, log 3). The last clause says the same of every list of writes, and so of the memory that the results of the four
instructions are stated with. -/
def Obligations.OpenSlotsStoreOnlyWhereTheyWrite : Prop :=
  ∀ (s u : State) (a : Nat),
    (∀ t, exec (.sacc t) s = .next u → (∀ w ∈ (s.saccResult t).2, a % s.size ≠ w.1 % s.size) → u.readByte a = s.readByte a) ∧
    (∀ t addr, exec (.lsr t addr) s = .next u → (∀ w ∈ (s.lsrResult t addr).2, a % s.size ≠ w.1 % s.size) →
      u.readByte a = s.readByte a) ∧
    (∀ t, exec (.stk t) s = .next u → (∀ w ∈ (s.stkResult t).2.2, a % s.size ≠ w.1 % s.size) → u.readByte a = s.readByte a) ∧
    (∀ t o1 o2, exec (.movb t o1 o2) s = .next u → (∀ w ∈ (s.movbResult t o1 o2).2, a % s.size ≠ w.1 % s.size) →
      u.readByte a = s.readByte a) ∧
    (∀ t, exec (.sacc t) s = .next u → u.readByte a = (lastWriteTo s.size a (s.saccResult t).2).getD (s.readByte a)) ∧
    (∀ t addr, exec (.lsr t addr) s = .next u →
      u.readByte a = (lastWriteTo s.size a (s.lsrResult t addr).2).getD (s.readByte a)) ∧
    (∀ t, exec (.stk t) s = .next u → u.readByte a = (lastWriteTo s.size a (s.stkResult t).2.2).getD (s.readByte a)) ∧
    (∀ t o1 o2, exec (.movb t o1 o2) s = .next u →
      u.readByte a = (lastWriteTo s.size a (s.movbResult t o1 o2).2).getD (s.readByte a)) ∧
    (∀ before after v w, w % s.size = a % s.size → (∀ x ∈ after, x.1 % s.size ≠ a % s.size) →
      (s.applyWrites (before ++ (w, v) :: after)).readByte a = v)

/-- R29, R95: a sequential instruction advances pc by its width modulo N, and a halting one leaves pc = p (the spec's decision
D26). -/
def Obligations.PcAdvancesByTheWidth : Prop :=
  ∀ (i : Instr) (s t : State), exec i s = .next t →
    (overwritesPc i = false → haltingCause i = none → t.pc = (s.pc + i.width) % s.size) ∧
    (∀ c, haltingCause i = some c → t.pc = s.pc)

/-! ### Sequences -/

/-- R210, which the spec marks derived: what an LD8 loaded, an ST8 stores, as long as the registers are unchanged between; and an
ST8 over cells that already hold the registers leaves memory as it was. The first clause holds for either order of the bytes; that
the second compares byte p + 1 + i with x[i] is the spec's decision D40 (log 13), and that memory is then equal data rests on the
canonical form of log 12. -/
def Obligations.BulkStoreGivesBackTheBulkLoad : Prop :=
  (∀ (d e : Octet) (s t v u : State), exec (.ld8 d) s = .next t → v.x = t.x → exec (.st8 e) v = .next u →
    ∀ i : Fin 8, u.readByte (v.pc + 1 + i.val) = d[i]) ∧
  (∀ (e : Octet) (v u : State), v.Inv → (∀ i : Fin 8, v.readByte (v.pc + 1 + i.val) = v.x[i]) →
    exec (.st8 e) v = .next u → u.mem = v.mem)

/-- R186, which the spec marks derived (17 calls as 90_conflicts.md C3 corrects them): up to 16 nested calls return in reverse
order; after 17, the returns go to the last 16 return addresses in reverse order and then to the last one again. -/
def Obligations.NestedCallsReturnInReverse : Prop :=
  (∀ (s : State) (calls : List Call), calls.length ≤ 16 →
    ∃ t, nestCalls calls s = .next t ∧
      returnTargets calls.length t = (calls.map (Call.returnAddress s.size)).reverse) ∧
  (∀ (s : State) (first : Call) (calls : List Call), calls.length = 16 →
    ∃ t, nestCalls (first :: calls) s = .next t ∧
      returnTargets 17 t = (calls.map (Call.returnAddress s.size)).reverse ++
        ((calls.map (Call.returnAddress s.size)).reverse.take 1))
end

