-- ==== Sys2Proof/Laws/Decode.lean ====
section
/-! SUPPORT. The bit fields of the encodings, each taken apart and put together once. -/

namespace Sys2Proof

@[simp] theorem opcodeOf_instrByte (op t : Nibble) : opcodeOf (instrByte op t) = op := by
  revert op t; decide

@[simp] theorem traitOf_instrByte (op t : Nibble) : traitOf (instrByte op t) = t := by
  revert op t; decide

@[simp] theorem instrByte_opcode_trait (ib : Byte) : instrByte (opcodeOf ib) (traitOf ib) = ib := by
  revert ib; decide

@[simp] theorem addr16_hi_lo (a : Addr16) : addr16 (addrHi a) (addrLo a) = a := by
  apply BitVec.eq_of_getLsbD_eq
  intro i hi
  simp only [addr16, addrHi, addrLo, BitVec.getLsbD_append, BitVec.getLsbD_extractLsb']
  split
  · next h => simp [h]
  · next h =>
    have h8 : i - 8 < 8 := by omega
    have hs : 8 + (i - 8) = i := by omega
    simp [h8, hs]

@[simp] theorem addrHi_addr16 (o1 o2 : Byte) : addrHi (addr16 o1 o2) = o1 := by
  apply BitVec.eq_of_getLsbD_eq
  intro i hi
  rw [addr16, addrHi, BitVec.getLsbD_extractLsb', BitVec.getLsbD_append]
  simp [hi]

@[simp] theorem addrLo_addr16 (o1 o2 : Byte) : addrLo (addr16 o1 o2) = o2 := by
  apply BitVec.eq_of_getLsbD_eq
  intro i hi
  rw [addr16, addrLo, BitVec.getLsbD_extractLsb', BitVec.getLsbD_append]
  simp [hi]

/-- `{o1, o2}` as a number (R8). -/
theorem addr16_toNat (o1 o2 : Byte) : (addr16 o1 o2).toNat = 256 * o1.toNat + o2.toNat := by
  have := o2.isLt
  rw [addr16, BitVec.toNat_append, ← Nat.shiftLeft_add_eq_or_of_lt (by omega), Nat.shiftLeft_eq]
  omega

@[simp] theorem aluInputOf_ldalTrait (sel : AluInput) (r : RegIdx) : aluInputOf (ldalTrait sel r) = sel := by
  cases sel <;> (revert r; decide)

@[simp] theorem lowThree_ldalTrait (sel : AluInput) (r : RegIdx) : lowThree (ldalTrait sel r) = r := by
  cases sel <;> (revert r; decide)

@[simp] theorem ldalTrait_of_trait (t : Nibble) : ldalTrait (aluInputOf t) (lowThree t) = t := by
  revert t; decide

/-- The eight operand bytes, in order. -/
theorem octetOf_toList (b : Nat → Byte) : (octetOf b).toList = [b 1, b 2, b 3, b 4, b 5, b 6, b 7, b 8] := rfl

/-! ### The instruction bytes of the special functions (R97): opcode 0xF, the trait their low nibble -/

@[simp] theorem opcodeOf_0xF0 : opcodeOf 240#8 = 15#4 := rfl
@[simp] theorem traitOf_0xF0 : traitOf 240#8 = 0#4 := rfl
@[simp] theorem opcodeOf_0xF1 : opcodeOf 241#8 = 15#4 := rfl
@[simp] theorem traitOf_0xF1 : traitOf 241#8 = 1#4 := rfl
@[simp] theorem opcodeOf_0xF2 : opcodeOf 242#8 = 15#4 := rfl
@[simp] theorem traitOf_0xF2 : traitOf 242#8 = 2#4 := rfl
@[simp] theorem opcodeOf_0xF3 : opcodeOf 243#8 = 15#4 := rfl
@[simp] theorem traitOf_0xF3 : traitOf 243#8 = 3#4 := rfl
@[simp] theorem opcodeOf_0xF4 : opcodeOf 244#8 = 15#4 := rfl
@[simp] theorem traitOf_0xF4 : traitOf 244#8 = 4#4 := rfl
@[simp] theorem opcodeOf_0xF5 : opcodeOf 245#8 = 15#4 := rfl
@[simp] theorem traitOf_0xF5 : traitOf 245#8 = 5#4 := rfl
@[simp] theorem opcodeOf_0xF6 : opcodeOf 246#8 = 15#4 := rfl
@[simp] theorem traitOf_0xF6 : traitOf 246#8 = 6#4 := rfl
@[simp] theorem opcodeOf_0xF7 : opcodeOf 247#8 = 15#4 := rfl
@[simp] theorem traitOf_0xF7 : traitOf 247#8 = 7#4 := rfl

/-- The traits 8 to 15 of the last row: a set bit 3 over the ignored bits. -/
@[simp] theorem highTrait_toNat (x : BitVec 3) : (1#1 ++ x).toNat = 8 + x.toNat := by
  revert x; decide

@[simp] theorem lowThree_highTrait (x : BitVec 3) : lowThree (1#1 ++ x) = x := by
  revert x; decide

end Sys2Proof
end

