-- ==== Sys2Proof/Laws/State.lean ====
section
/-! SUPPORT. What each update of the state does to each field, one lemma per field per update, so that no proof unfolds a
record update. -/

namespace Sys2Proof.Machine

open Sys2Proof

/-! ### writeByte -/

@[simp] theorem State.writeByte_x (s : State) (addr : Nat) (v : Byte) : (s.writeByte addr v).x = s.x := rfl
@[simp] theorem State.writeByte_a (s : State) (addr : Nat) (v : Byte) : (s.writeByte addr v).a = s.a := rfl
@[simp] theorem State.writeByte_b (s : State) (addr : Nat) (v : Byte) : (s.writeByte addr v).b = s.b := rfl
@[simp] theorem State.writeByte_acc (s : State) (addr : Nat) (v : Byte) : (s.writeByte addr v).acc = s.acc := rfl
@[simp] theorem State.writeByte_flags (s : State) (addr : Nat) (v : Byte) : (s.writeByte addr v).flags = s.flags := rfl
@[simp] theorem State.writeByte_kbd (s : State) (addr : Nat) (v : Byte) : (s.writeByte addr v).kbd = s.kbd := rfl
@[simp] theorem State.writeByte_pc (s : State) (addr : Nat) (v : Byte) : (s.writeByte addr v).pc = s.pc := rfl
@[simp] theorem State.writeByte_sp (s : State) (addr : Nat) (v : Byte) : (s.writeByte addr v).sp = s.sp := rfl
@[simp] theorem State.writeByte_ras (s : State) (addr : Nat) (v : Byte) : (s.writeByte addr v).ras = s.ras := rfl
@[simp] theorem State.writeByte_asp (s : State) (addr : Nat) (v : Byte) : (s.writeByte addr v).asp = s.asp := rfl
@[simp] theorem State.writeByte_run (s : State) (addr : Nat) (v : Byte) : (s.writeByte addr v).run = s.run := rfl
@[simp] theorem State.writeByte_cause (s : State) (addr : Nat) (v : Byte) : (s.writeByte addr v).cause = s.cause := rfl
@[simp] theorem State.writeByte_icount (s : State) (addr : Nat) (v : Byte) : (s.writeByte addr v).icount = s.icount := rfl
@[simp] theorem State.writeByte_cfg (s : State) (addr : Nat) (v : Byte) : (s.writeByte addr v).cfg = s.cfg := rfl
@[simp] theorem State.writeByte_trace (s : State) (addr : Nat) (v : Byte) : (s.writeByte addr v).trace = s.trace := rfl
@[simp] theorem State.writeByte_env (s : State) (addr : Nat) (v : Byte) : (s.writeByte addr v).env = s.env := rfl
@[simp] theorem State.writeByte_size (s : State) (addr : Nat) (v : Byte) : (s.writeByte addr v).size = s.size := rfl
@[simp] theorem State.writeByte_mem (s : State) (addr : Nat) (v : Byte) : (s.writeByte addr v).mem = Memory.write (Memory.unlisted s.cfg) s.mem (addr % s.size) v := rfl

/-! ### setReg -/

@[simp] theorem State.setReg_mem (s : State) (r : RegIdx) (v : Byte) : (s.setReg r v).mem = s.mem := rfl
@[simp] theorem State.setReg_a (s : State) (r : RegIdx) (v : Byte) : (s.setReg r v).a = s.a := rfl
@[simp] theorem State.setReg_b (s : State) (r : RegIdx) (v : Byte) : (s.setReg r v).b = s.b := rfl
@[simp] theorem State.setReg_acc (s : State) (r : RegIdx) (v : Byte) : (s.setReg r v).acc = s.acc := rfl
@[simp] theorem State.setReg_flags (s : State) (r : RegIdx) (v : Byte) : (s.setReg r v).flags = s.flags := rfl
@[simp] theorem State.setReg_kbd (s : State) (r : RegIdx) (v : Byte) : (s.setReg r v).kbd = s.kbd := rfl
@[simp] theorem State.setReg_pc (s : State) (r : RegIdx) (v : Byte) : (s.setReg r v).pc = s.pc := rfl
@[simp] theorem State.setReg_sp (s : State) (r : RegIdx) (v : Byte) : (s.setReg r v).sp = s.sp := rfl
@[simp] theorem State.setReg_ras (s : State) (r : RegIdx) (v : Byte) : (s.setReg r v).ras = s.ras := rfl
@[simp] theorem State.setReg_asp (s : State) (r : RegIdx) (v : Byte) : (s.setReg r v).asp = s.asp := rfl
@[simp] theorem State.setReg_run (s : State) (r : RegIdx) (v : Byte) : (s.setReg r v).run = s.run := rfl
@[simp] theorem State.setReg_cause (s : State) (r : RegIdx) (v : Byte) : (s.setReg r v).cause = s.cause := rfl
@[simp] theorem State.setReg_icount (s : State) (r : RegIdx) (v : Byte) : (s.setReg r v).icount = s.icount := rfl
@[simp] theorem State.setReg_cfg (s : State) (r : RegIdx) (v : Byte) : (s.setReg r v).cfg = s.cfg := rfl
@[simp] theorem State.setReg_trace (s : State) (r : RegIdx) (v : Byte) : (s.setReg r v).trace = s.trace := rfl
@[simp] theorem State.setReg_env (s : State) (r : RegIdx) (v : Byte) : (s.setReg r v).env = s.env := rfl
@[simp] theorem State.setReg_size (s : State) (r : RegIdx) (v : Byte) : (s.setReg r v).size = s.size := rfl
@[simp] theorem State.setReg_x (s : State) (r : RegIdx) (v : Byte) : (s.setReg r v).x = s.x.set r.toNat v r.isLt := rfl

/-! ### advance -/

@[simp] theorem State.advance_mem (s : State) (w : Nat) : (s.advance w).mem = s.mem := rfl
@[simp] theorem State.advance_x (s : State) (w : Nat) : (s.advance w).x = s.x := rfl
@[simp] theorem State.advance_a (s : State) (w : Nat) : (s.advance w).a = s.a := rfl
@[simp] theorem State.advance_b (s : State) (w : Nat) : (s.advance w).b = s.b := rfl
@[simp] theorem State.advance_acc (s : State) (w : Nat) : (s.advance w).acc = s.acc := rfl
@[simp] theorem State.advance_flags (s : State) (w : Nat) : (s.advance w).flags = s.flags := rfl
@[simp] theorem State.advance_kbd (s : State) (w : Nat) : (s.advance w).kbd = s.kbd := rfl
@[simp] theorem State.advance_sp (s : State) (w : Nat) : (s.advance w).sp = s.sp := rfl
@[simp] theorem State.advance_ras (s : State) (w : Nat) : (s.advance w).ras = s.ras := rfl
@[simp] theorem State.advance_asp (s : State) (w : Nat) : (s.advance w).asp = s.asp := rfl
@[simp] theorem State.advance_run (s : State) (w : Nat) : (s.advance w).run = s.run := rfl
@[simp] theorem State.advance_cause (s : State) (w : Nat) : (s.advance w).cause = s.cause := rfl
@[simp] theorem State.advance_icount (s : State) (w : Nat) : (s.advance w).icount = s.icount := rfl
@[simp] theorem State.advance_cfg (s : State) (w : Nat) : (s.advance w).cfg = s.cfg := rfl
@[simp] theorem State.advance_trace (s : State) (w : Nat) : (s.advance w).trace = s.trace := rfl
@[simp] theorem State.advance_env (s : State) (w : Nat) : (s.advance w).env = s.env := rfl
@[simp] theorem State.advance_size (s : State) (w : Nat) : (s.advance w).size = s.size := rfl
@[simp] theorem State.advance_pc (s : State) (w : Nat) : (s.advance w).pc = (s.pc + w) % s.size := rfl

/-! ### jumpTo -/

@[simp] theorem State.jumpTo_mem (s : State) (target : Nat) : (s.jumpTo target).mem = s.mem := rfl
@[simp] theorem State.jumpTo_x (s : State) (target : Nat) : (s.jumpTo target).x = s.x := rfl
@[simp] theorem State.jumpTo_a (s : State) (target : Nat) : (s.jumpTo target).a = s.a := rfl
@[simp] theorem State.jumpTo_b (s : State) (target : Nat) : (s.jumpTo target).b = s.b := rfl
@[simp] theorem State.jumpTo_acc (s : State) (target : Nat) : (s.jumpTo target).acc = s.acc := rfl
@[simp] theorem State.jumpTo_flags (s : State) (target : Nat) : (s.jumpTo target).flags = s.flags := rfl
@[simp] theorem State.jumpTo_kbd (s : State) (target : Nat) : (s.jumpTo target).kbd = s.kbd := rfl
@[simp] theorem State.jumpTo_sp (s : State) (target : Nat) : (s.jumpTo target).sp = s.sp := rfl
@[simp] theorem State.jumpTo_ras (s : State) (target : Nat) : (s.jumpTo target).ras = s.ras := rfl
@[simp] theorem State.jumpTo_asp (s : State) (target : Nat) : (s.jumpTo target).asp = s.asp := rfl
@[simp] theorem State.jumpTo_run (s : State) (target : Nat) : (s.jumpTo target).run = s.run := rfl
@[simp] theorem State.jumpTo_cause (s : State) (target : Nat) : (s.jumpTo target).cause = s.cause := rfl
@[simp] theorem State.jumpTo_icount (s : State) (target : Nat) : (s.jumpTo target).icount = s.icount := rfl
@[simp] theorem State.jumpTo_cfg (s : State) (target : Nat) : (s.jumpTo target).cfg = s.cfg := rfl
@[simp] theorem State.jumpTo_trace (s : State) (target : Nat) : (s.jumpTo target).trace = s.trace := rfl
@[simp] theorem State.jumpTo_env (s : State) (target : Nat) : (s.jumpTo target).env = s.env := rfl
@[simp] theorem State.jumpTo_size (s : State) (target : Nat) : (s.jumpTo target).size = s.size := rfl
@[simp] theorem State.jumpTo_pc (s : State) (target : Nat) : (s.jumpTo target).pc = target := rfl

/-! ### pushReturn -/

@[simp] theorem State.pushReturn_mem (s : State) (ret : Nat) : (s.pushReturn ret).mem = s.mem := rfl
@[simp] theorem State.pushReturn_x (s : State) (ret : Nat) : (s.pushReturn ret).x = s.x := rfl
@[simp] theorem State.pushReturn_a (s : State) (ret : Nat) : (s.pushReturn ret).a = s.a := rfl
@[simp] theorem State.pushReturn_b (s : State) (ret : Nat) : (s.pushReturn ret).b = s.b := rfl
@[simp] theorem State.pushReturn_acc (s : State) (ret : Nat) : (s.pushReturn ret).acc = s.acc := rfl
@[simp] theorem State.pushReturn_flags (s : State) (ret : Nat) : (s.pushReturn ret).flags = s.flags := rfl
@[simp] theorem State.pushReturn_kbd (s : State) (ret : Nat) : (s.pushReturn ret).kbd = s.kbd := rfl
@[simp] theorem State.pushReturn_pc (s : State) (ret : Nat) : (s.pushReturn ret).pc = s.pc := rfl
@[simp] theorem State.pushReturn_sp (s : State) (ret : Nat) : (s.pushReturn ret).sp = s.sp := rfl
@[simp] theorem State.pushReturn_run (s : State) (ret : Nat) : (s.pushReturn ret).run = s.run := rfl
@[simp] theorem State.pushReturn_cause (s : State) (ret : Nat) : (s.pushReturn ret).cause = s.cause := rfl
@[simp] theorem State.pushReturn_icount (s : State) (ret : Nat) : (s.pushReturn ret).icount = s.icount := rfl
@[simp] theorem State.pushReturn_cfg (s : State) (ret : Nat) : (s.pushReturn ret).cfg = s.cfg := rfl
@[simp] theorem State.pushReturn_trace (s : State) (ret : Nat) : (s.pushReturn ret).trace = s.trace := rfl
@[simp] theorem State.pushReturn_env (s : State) (ret : Nat) : (s.pushReturn ret).env = s.env := rfl
@[simp] theorem State.pushReturn_size (s : State) (ret : Nat) : (s.pushReturn ret).size = s.size := rfl
@[simp] theorem State.pushReturn_ras (s : State) (ret : Nat) : (s.pushReturn ret).ras = s.ras.set (rasSlot s.asp).val ret (rasSlot s.asp).isLt := rfl
@[simp] theorem State.pushReturn_asp (s : State) (ret : Nat) : (s.pushReturn ret).asp = s.asp + 1 := rfl

/-! ### popReturn -/

@[simp] theorem State.popReturn_mem (s : State) : (s.popReturn).mem = s.mem := rfl
@[simp] theorem State.popReturn_x (s : State) : (s.popReturn).x = s.x := rfl
@[simp] theorem State.popReturn_a (s : State) : (s.popReturn).a = s.a := rfl
@[simp] theorem State.popReturn_b (s : State) : (s.popReturn).b = s.b := rfl
@[simp] theorem State.popReturn_acc (s : State) : (s.popReturn).acc = s.acc := rfl
@[simp] theorem State.popReturn_flags (s : State) : (s.popReturn).flags = s.flags := rfl
@[simp] theorem State.popReturn_kbd (s : State) : (s.popReturn).kbd = s.kbd := rfl
@[simp] theorem State.popReturn_sp (s : State) : (s.popReturn).sp = s.sp := rfl
@[simp] theorem State.popReturn_ras (s : State) : (s.popReturn).ras = s.ras := rfl
@[simp] theorem State.popReturn_run (s : State) : (s.popReturn).run = s.run := rfl
@[simp] theorem State.popReturn_cause (s : State) : (s.popReturn).cause = s.cause := rfl
@[simp] theorem State.popReturn_icount (s : State) : (s.popReturn).icount = s.icount := rfl
@[simp] theorem State.popReturn_cfg (s : State) : (s.popReturn).cfg = s.cfg := rfl
@[simp] theorem State.popReturn_trace (s : State) : (s.popReturn).trace = s.trace := rfl
@[simp] theorem State.popReturn_env (s : State) : (s.popReturn).env = s.env := rfl
@[simp] theorem State.popReturn_size (s : State) : (s.popReturn).size = s.size := rfl
@[simp] theorem State.popReturn_asp (s : State) : (s.popReturn).asp = s.asp - 1 := rfl
@[simp] theorem State.popReturn_pc (s : State) : (s.popReturn).pc = s.ras[(rasSlot (s.asp - 1)).val]'(rasSlot (s.asp - 1)).isLt := rfl

/-! ### emit -/

@[simp] theorem State.emit_mem (s : State) (e : Event) : (s.emit e).mem = s.mem := rfl
@[simp] theorem State.emit_x (s : State) (e : Event) : (s.emit e).x = s.x := rfl
@[simp] theorem State.emit_a (s : State) (e : Event) : (s.emit e).a = s.a := rfl
@[simp] theorem State.emit_b (s : State) (e : Event) : (s.emit e).b = s.b := rfl
@[simp] theorem State.emit_acc (s : State) (e : Event) : (s.emit e).acc = s.acc := rfl
@[simp] theorem State.emit_flags (s : State) (e : Event) : (s.emit e).flags = s.flags := rfl
@[simp] theorem State.emit_kbd (s : State) (e : Event) : (s.emit e).kbd = s.kbd := rfl
@[simp] theorem State.emit_pc (s : State) (e : Event) : (s.emit e).pc = s.pc := rfl
@[simp] theorem State.emit_sp (s : State) (e : Event) : (s.emit e).sp = s.sp := rfl
@[simp] theorem State.emit_ras (s : State) (e : Event) : (s.emit e).ras = s.ras := rfl
@[simp] theorem State.emit_asp (s : State) (e : Event) : (s.emit e).asp = s.asp := rfl
@[simp] theorem State.emit_run (s : State) (e : Event) : (s.emit e).run = s.run := rfl
@[simp] theorem State.emit_cause (s : State) (e : Event) : (s.emit e).cause = s.cause := rfl
@[simp] theorem State.emit_icount (s : State) (e : Event) : (s.emit e).icount = s.icount := rfl
@[simp] theorem State.emit_cfg (s : State) (e : Event) : (s.emit e).cfg = s.cfg := rfl
@[simp] theorem State.emit_env (s : State) (e : Event) : (s.emit e).env = s.env := rfl
@[simp] theorem State.emit_size (s : State) (e : Event) : (s.emit e).size = s.size := rfl
@[simp] theorem State.emit_trace (s : State) (e : Event) : (s.emit e).trace = s.trace ++ [e] := rfl

/-! ### halt -/

@[simp] theorem State.halt_mem (s : State) (c : Cause) : (s.halt c).mem = s.mem := rfl
@[simp] theorem State.halt_x (s : State) (c : Cause) : (s.halt c).x = s.x := rfl
@[simp] theorem State.halt_a (s : State) (c : Cause) : (s.halt c).a = s.a := rfl
@[simp] theorem State.halt_b (s : State) (c : Cause) : (s.halt c).b = s.b := rfl
@[simp] theorem State.halt_acc (s : State) (c : Cause) : (s.halt c).acc = s.acc := rfl
@[simp] theorem State.halt_flags (s : State) (c : Cause) : (s.halt c).flags = s.flags := rfl
@[simp] theorem State.halt_kbd (s : State) (c : Cause) : (s.halt c).kbd = s.kbd := rfl
@[simp] theorem State.halt_pc (s : State) (c : Cause) : (s.halt c).pc = s.pc := rfl
@[simp] theorem State.halt_sp (s : State) (c : Cause) : (s.halt c).sp = s.sp := rfl
@[simp] theorem State.halt_ras (s : State) (c : Cause) : (s.halt c).ras = s.ras := rfl
@[simp] theorem State.halt_asp (s : State) (c : Cause) : (s.halt c).asp = s.asp := rfl
@[simp] theorem State.halt_icount (s : State) (c : Cause) : (s.halt c).icount = s.icount := rfl
@[simp] theorem State.halt_cfg (s : State) (c : Cause) : (s.halt c).cfg = s.cfg := rfl
@[simp] theorem State.halt_trace (s : State) (c : Cause) : (s.halt c).trace = s.trace := rfl
@[simp] theorem State.halt_env (s : State) (c : Cause) : (s.halt c).env = s.env := rfl
@[simp] theorem State.halt_size (s : State) (c : Cause) : (s.halt c).size = s.size := rfl
@[simp] theorem State.halt_run (s : State) (c : Cause) : (s.halt c).run = .halted := rfl
@[simp] theorem State.halt_cause (s : State) (c : Cause) : (s.halt c).cause = c := rfl

/-! ### raiseFatal -/

@[simp] theorem State.raiseFatal_mem (s : State) (c : Cause) : (s.raiseFatal c).mem = s.mem := rfl
@[simp] theorem State.raiseFatal_x (s : State) (c : Cause) : (s.raiseFatal c).x = s.x := rfl
@[simp] theorem State.raiseFatal_a (s : State) (c : Cause) : (s.raiseFatal c).a = s.a := rfl
@[simp] theorem State.raiseFatal_b (s : State) (c : Cause) : (s.raiseFatal c).b = s.b := rfl
@[simp] theorem State.raiseFatal_acc (s : State) (c : Cause) : (s.raiseFatal c).acc = s.acc := rfl
@[simp] theorem State.raiseFatal_flags (s : State) (c : Cause) : (s.raiseFatal c).flags = s.flags := rfl
@[simp] theorem State.raiseFatal_kbd (s : State) (c : Cause) : (s.raiseFatal c).kbd = s.kbd := rfl
@[simp] theorem State.raiseFatal_pc (s : State) (c : Cause) : (s.raiseFatal c).pc = s.pc := rfl
@[simp] theorem State.raiseFatal_sp (s : State) (c : Cause) : (s.raiseFatal c).sp = s.sp := rfl
@[simp] theorem State.raiseFatal_ras (s : State) (c : Cause) : (s.raiseFatal c).ras = s.ras := rfl
@[simp] theorem State.raiseFatal_asp (s : State) (c : Cause) : (s.raiseFatal c).asp = s.asp := rfl
@[simp] theorem State.raiseFatal_icount (s : State) (c : Cause) : (s.raiseFatal c).icount = s.icount := rfl
@[simp] theorem State.raiseFatal_cfg (s : State) (c : Cause) : (s.raiseFatal c).cfg = s.cfg := rfl
@[simp] theorem State.raiseFatal_env (s : State) (c : Cause) : (s.raiseFatal c).env = s.env := rfl
@[simp] theorem State.raiseFatal_size (s : State) (c : Cause) : (s.raiseFatal c).size = s.size := rfl
@[simp] theorem State.raiseFatal_run (s : State) (c : Cause) : (s.raiseFatal c).run = .halted := rfl
@[simp] theorem State.raiseFatal_cause (s : State) (c : Cause) : (s.raiseFatal c).cause = c := rfl
@[simp] theorem State.raiseFatal_trace (s : State) (c : Cause) : (s.raiseFatal c).trace = s.trace ++ [.diagnostic c] := rfl

/-! ### afterLook -/

@[simp] theorem State.afterLook_mem (s : State) : (s.afterLook).mem = s.mem := rfl
@[simp] theorem State.afterLook_x (s : State) : (s.afterLook).x = s.x := rfl
@[simp] theorem State.afterLook_a (s : State) : (s.afterLook).a = s.a := rfl
@[simp] theorem State.afterLook_b (s : State) : (s.afterLook).b = s.b := rfl
@[simp] theorem State.afterLook_acc (s : State) : (s.afterLook).acc = s.acc := rfl
@[simp] theorem State.afterLook_flags (s : State) : (s.afterLook).flags = s.flags := rfl
@[simp] theorem State.afterLook_kbd (s : State) : (s.afterLook).kbd = s.kbd := rfl
@[simp] theorem State.afterLook_pc (s : State) : (s.afterLook).pc = s.pc := rfl
@[simp] theorem State.afterLook_sp (s : State) : (s.afterLook).sp = s.sp := rfl
@[simp] theorem State.afterLook_ras (s : State) : (s.afterLook).ras = s.ras := rfl
@[simp] theorem State.afterLook_asp (s : State) : (s.afterLook).asp = s.asp := rfl
@[simp] theorem State.afterLook_run (s : State) : (s.afterLook).run = s.run := rfl
@[simp] theorem State.afterLook_cause (s : State) : (s.afterLook).cause = s.cause := rfl
@[simp] theorem State.afterLook_icount (s : State) : (s.afterLook).icount = s.icount := rfl
@[simp] theorem State.afterLook_cfg (s : State) : (s.afterLook).cfg = s.cfg := rfl
@[simp] theorem State.afterLook_trace (s : State) : (s.afterLook).trace = s.trace := rfl
@[simp] theorem State.afterLook_size (s : State) : (s.afterLook).size = s.size := rfl
@[simp] theorem State.afterLook_env (s : State) : (s.afterLook).env = { s.env with waits := s.env.waits + 1 } := rfl

/-! ### afterPoll -/

@[simp] theorem State.afterPoll_mem (s : State) : (s.afterPoll).mem = s.mem := rfl
@[simp] theorem State.afterPoll_x (s : State) : (s.afterPoll).x = s.x := rfl
@[simp] theorem State.afterPoll_a (s : State) : (s.afterPoll).a = s.a := rfl
@[simp] theorem State.afterPoll_b (s : State) : (s.afterPoll).b = s.b := rfl
@[simp] theorem State.afterPoll_acc (s : State) : (s.afterPoll).acc = s.acc := rfl
@[simp] theorem State.afterPoll_flags (s : State) : (s.afterPoll).flags = s.flags := rfl
@[simp] theorem State.afterPoll_kbd (s : State) : (s.afterPoll).kbd = s.kbd := rfl
@[simp] theorem State.afterPoll_pc (s : State) : (s.afterPoll).pc = s.pc := rfl
@[simp] theorem State.afterPoll_sp (s : State) : (s.afterPoll).sp = s.sp := rfl
@[simp] theorem State.afterPoll_ras (s : State) : (s.afterPoll).ras = s.ras := rfl
@[simp] theorem State.afterPoll_asp (s : State) : (s.afterPoll).asp = s.asp := rfl
@[simp] theorem State.afterPoll_run (s : State) : (s.afterPoll).run = s.run := rfl
@[simp] theorem State.afterPoll_cause (s : State) : (s.afterPoll).cause = s.cause := rfl
@[simp] theorem State.afterPoll_icount (s : State) : (s.afterPoll).icount = s.icount := rfl
@[simp] theorem State.afterPoll_cfg (s : State) : (s.afterPoll).cfg = s.cfg := rfl
@[simp] theorem State.afterPoll_trace (s : State) : (s.afterPoll).trace = s.trace := rfl
@[simp] theorem State.afterPoll_size (s : State) : (s.afterPoll).size = s.size := rfl
@[simp] theorem State.afterPoll_env (s : State) : (s.afterPoll).env = { s.env with polls := s.env.polls + 1 } := rfl

/-! ### setAluInput -/

@[simp] theorem State.setAluInput_mem (s : State) (sel : AluInput) (v : Byte) : (s.setAluInput sel v).mem = s.mem := by cases sel <;> rfl
@[simp] theorem State.setAluInput_x (s : State) (sel : AluInput) (v : Byte) : (s.setAluInput sel v).x = s.x := by cases sel <;> rfl
@[simp] theorem State.setAluInput_acc (s : State) (sel : AluInput) (v : Byte) : (s.setAluInput sel v).acc = s.acc := by cases sel <;> rfl
@[simp] theorem State.setAluInput_flags (s : State) (sel : AluInput) (v : Byte) : (s.setAluInput sel v).flags = s.flags := by cases sel <;> rfl
@[simp] theorem State.setAluInput_kbd (s : State) (sel : AluInput) (v : Byte) : (s.setAluInput sel v).kbd = s.kbd := by cases sel <;> rfl
@[simp] theorem State.setAluInput_pc (s : State) (sel : AluInput) (v : Byte) : (s.setAluInput sel v).pc = s.pc := by cases sel <;> rfl
@[simp] theorem State.setAluInput_sp (s : State) (sel : AluInput) (v : Byte) : (s.setAluInput sel v).sp = s.sp := by cases sel <;> rfl
@[simp] theorem State.setAluInput_ras (s : State) (sel : AluInput) (v : Byte) : (s.setAluInput sel v).ras = s.ras := by cases sel <;> rfl
@[simp] theorem State.setAluInput_asp (s : State) (sel : AluInput) (v : Byte) : (s.setAluInput sel v).asp = s.asp := by cases sel <;> rfl
@[simp] theorem State.setAluInput_run (s : State) (sel : AluInput) (v : Byte) : (s.setAluInput sel v).run = s.run := by cases sel <;> rfl
@[simp] theorem State.setAluInput_cause (s : State) (sel : AluInput) (v : Byte) : (s.setAluInput sel v).cause = s.cause := by cases sel <;> rfl
@[simp] theorem State.setAluInput_icount (s : State) (sel : AluInput) (v : Byte) : (s.setAluInput sel v).icount = s.icount := by cases sel <;> rfl
@[simp] theorem State.setAluInput_cfg (s : State) (sel : AluInput) (v : Byte) : (s.setAluInput sel v).cfg = s.cfg := by cases sel <;> rfl
@[simp] theorem State.setAluInput_trace (s : State) (sel : AluInput) (v : Byte) : (s.setAluInput sel v).trace = s.trace := by cases sel <;> rfl
@[simp] theorem State.setAluInput_env (s : State) (sel : AluInput) (v : Byte) : (s.setAluInput sel v).env = s.env := by cases sel <;> rfl
@[simp] theorem State.setAluInput_size (s : State) (sel : AluInput) (v : Byte) : (s.setAluInput sel v).size = s.size := by
  unfold State.size; simp

/-! ### writeScreen -/

@[simp] theorem State.writeScreen_mem (s : State) (b1 b2 : Byte) : (s.writeScreen b1 b2).mem = s.mem := by
  unfold State.writeScreen; split <;> rfl
@[simp] theorem State.writeScreen_x (s : State) (b1 b2 : Byte) : (s.writeScreen b1 b2).x = s.x := by
  unfold State.writeScreen; split <;> rfl
@[simp] theorem State.writeScreen_a (s : State) (b1 b2 : Byte) : (s.writeScreen b1 b2).a = s.a := by
  unfold State.writeScreen; split <;> rfl
@[simp] theorem State.writeScreen_b (s : State) (b1 b2 : Byte) : (s.writeScreen b1 b2).b = s.b := by
  unfold State.writeScreen; split <;> rfl
@[simp] theorem State.writeScreen_acc (s : State) (b1 b2 : Byte) : (s.writeScreen b1 b2).acc = s.acc := by
  unfold State.writeScreen; split <;> rfl
@[simp] theorem State.writeScreen_flags (s : State) (b1 b2 : Byte) : (s.writeScreen b1 b2).flags = s.flags := by
  unfold State.writeScreen; split <;> rfl
@[simp] theorem State.writeScreen_kbd (s : State) (b1 b2 : Byte) : (s.writeScreen b1 b2).kbd = s.kbd := by
  unfold State.writeScreen; split <;> rfl
@[simp] theorem State.writeScreen_pc (s : State) (b1 b2 : Byte) : (s.writeScreen b1 b2).pc = s.pc := by
  unfold State.writeScreen; split <;> rfl
@[simp] theorem State.writeScreen_sp (s : State) (b1 b2 : Byte) : (s.writeScreen b1 b2).sp = s.sp := by
  unfold State.writeScreen; split <;> rfl
@[simp] theorem State.writeScreen_ras (s : State) (b1 b2 : Byte) : (s.writeScreen b1 b2).ras = s.ras := by
  unfold State.writeScreen; split <;> rfl
@[simp] theorem State.writeScreen_asp (s : State) (b1 b2 : Byte) : (s.writeScreen b1 b2).asp = s.asp := by
  unfold State.writeScreen; split <;> rfl
@[simp] theorem State.writeScreen_run (s : State) (b1 b2 : Byte) : (s.writeScreen b1 b2).run = s.run := by
  unfold State.writeScreen; split <;> rfl
@[simp] theorem State.writeScreen_cause (s : State) (b1 b2 : Byte) : (s.writeScreen b1 b2).cause = s.cause := by
  unfold State.writeScreen; split <;> rfl
@[simp] theorem State.writeScreen_icount (s : State) (b1 b2 : Byte) : (s.writeScreen b1 b2).icount = s.icount := by
  unfold State.writeScreen; split <;> rfl
@[simp] theorem State.writeScreen_cfg (s : State) (b1 b2 : Byte) : (s.writeScreen b1 b2).cfg = s.cfg := by
  unfold State.writeScreen; split <;> rfl
@[simp] theorem State.writeScreen_env (s : State) (b1 b2 : Byte) : (s.writeScreen b1 b2).env = s.env := by
  unfold State.writeScreen; split <;> rfl
@[simp] theorem State.writeScreen_size (s : State) (b1 b2 : Byte) : (s.writeScreen b1 b2).size = s.size := by
  unfold State.size; simp

/-! ### orKbd -/

@[simp] theorem State.orKbd_mem (s : State) (r : Option Byte) : (s.orKbd r).mem = s.mem := by cases r <;> rfl
@[simp] theorem State.orKbd_x (s : State) (r : Option Byte) : (s.orKbd r).x = s.x := by cases r <;> rfl
@[simp] theorem State.orKbd_a (s : State) (r : Option Byte) : (s.orKbd r).a = s.a := by cases r <;> rfl
@[simp] theorem State.orKbd_b (s : State) (r : Option Byte) : (s.orKbd r).b = s.b := by cases r <;> rfl
@[simp] theorem State.orKbd_acc (s : State) (r : Option Byte) : (s.orKbd r).acc = s.acc := by cases r <;> rfl
@[simp] theorem State.orKbd_flags (s : State) (r : Option Byte) : (s.orKbd r).flags = s.flags := by cases r <;> rfl
@[simp] theorem State.orKbd_pc (s : State) (r : Option Byte) : (s.orKbd r).pc = s.pc := by cases r <;> rfl
@[simp] theorem State.orKbd_sp (s : State) (r : Option Byte) : (s.orKbd r).sp = s.sp := by cases r <;> rfl
@[simp] theorem State.orKbd_ras (s : State) (r : Option Byte) : (s.orKbd r).ras = s.ras := by cases r <;> rfl
@[simp] theorem State.orKbd_asp (s : State) (r : Option Byte) : (s.orKbd r).asp = s.asp := by cases r <;> rfl
@[simp] theorem State.orKbd_run (s : State) (r : Option Byte) : (s.orKbd r).run = s.run := by cases r <;> rfl
@[simp] theorem State.orKbd_cause (s : State) (r : Option Byte) : (s.orKbd r).cause = s.cause := by cases r <;> rfl
@[simp] theorem State.orKbd_icount (s : State) (r : Option Byte) : (s.orKbd r).icount = s.icount := by cases r <;> rfl
@[simp] theorem State.orKbd_cfg (s : State) (r : Option Byte) : (s.orKbd r).cfg = s.cfg := by cases r <;> rfl
@[simp] theorem State.orKbd_trace (s : State) (r : Option Byte) : (s.orKbd r).trace = s.trace := by cases r <;> rfl
@[simp] theorem State.orKbd_env (s : State) (r : Option Byte) : (s.orKbd r).env = s.env := by cases r <;> rfl
@[simp] theorem State.orKbd_size (s : State) (r : Option Byte) : (s.orKbd r).size = s.size := by
  unfold State.size; simp

/-! ### storeBytes -/

/-- Only memory changes. -/
theorem State.storeBytes_eq (s : State) (addr : Nat) (vs : List Byte) :
    s.storeBytes addr vs = { s with mem := (s.storeBytes addr vs).mem } := by
  induction vs generalizing s addr with
  | nil => rfl
  | cons w rest ih => exact Eq.trans (ih _ _) rfl

@[simp] theorem State.storeBytes_x (s : State) (addr : Nat) (vs : List Byte) : (s.storeBytes addr vs).x = s.x := by
  rw [State.storeBytes_eq]
@[simp] theorem State.storeBytes_a (s : State) (addr : Nat) (vs : List Byte) : (s.storeBytes addr vs).a = s.a := by
  rw [State.storeBytes_eq]
@[simp] theorem State.storeBytes_b (s : State) (addr : Nat) (vs : List Byte) : (s.storeBytes addr vs).b = s.b := by
  rw [State.storeBytes_eq]
@[simp] theorem State.storeBytes_acc (s : State) (addr : Nat) (vs : List Byte) : (s.storeBytes addr vs).acc = s.acc := by
  rw [State.storeBytes_eq]
@[simp] theorem State.storeBytes_flags (s : State) (addr : Nat) (vs : List Byte) : (s.storeBytes addr vs).flags = s.flags := by
  rw [State.storeBytes_eq]
@[simp] theorem State.storeBytes_kbd (s : State) (addr : Nat) (vs : List Byte) : (s.storeBytes addr vs).kbd = s.kbd := by
  rw [State.storeBytes_eq]
@[simp] theorem State.storeBytes_pc (s : State) (addr : Nat) (vs : List Byte) : (s.storeBytes addr vs).pc = s.pc := by
  rw [State.storeBytes_eq]
@[simp] theorem State.storeBytes_sp (s : State) (addr : Nat) (vs : List Byte) : (s.storeBytes addr vs).sp = s.sp := by
  rw [State.storeBytes_eq]
@[simp] theorem State.storeBytes_ras (s : State) (addr : Nat) (vs : List Byte) : (s.storeBytes addr vs).ras = s.ras := by
  rw [State.storeBytes_eq]
@[simp] theorem State.storeBytes_asp (s : State) (addr : Nat) (vs : List Byte) : (s.storeBytes addr vs).asp = s.asp := by
  rw [State.storeBytes_eq]
@[simp] theorem State.storeBytes_run (s : State) (addr : Nat) (vs : List Byte) : (s.storeBytes addr vs).run = s.run := by
  rw [State.storeBytes_eq]
@[simp] theorem State.storeBytes_cause (s : State) (addr : Nat) (vs : List Byte) : (s.storeBytes addr vs).cause = s.cause := by
  rw [State.storeBytes_eq]
@[simp] theorem State.storeBytes_icount (s : State) (addr : Nat) (vs : List Byte) : (s.storeBytes addr vs).icount = s.icount := by
  rw [State.storeBytes_eq]
@[simp] theorem State.storeBytes_cfg (s : State) (addr : Nat) (vs : List Byte) : (s.storeBytes addr vs).cfg = s.cfg := by
  rw [State.storeBytes_eq]
@[simp] theorem State.storeBytes_trace (s : State) (addr : Nat) (vs : List Byte) : (s.storeBytes addr vs).trace = s.trace := by
  rw [State.storeBytes_eq]
@[simp] theorem State.storeBytes_env (s : State) (addr : Nat) (vs : List Byte) : (s.storeBytes addr vs).env = s.env := by
  rw [State.storeBytes_eq]
@[simp] theorem State.storeBytes_size (s : State) (addr : Nat) (vs : List Byte) : (s.storeBytes addr vs).size = s.size := by
  unfold State.size; simp

/-! ### applyWrites -/

/-- Only memory changes. -/
theorem State.applyWrites_eq (s : State) (ws : List Host.Cell) :
    s.applyWrites ws = { s with mem := (s.applyWrites ws).mem } := by
  induction ws generalizing s with
  | nil => rfl
  | cons w rest ih => exact Eq.trans (ih _) rfl

@[simp] theorem State.applyWrites_x (s : State) (ws : List Host.Cell) : (s.applyWrites ws).x = s.x := by
  rw [State.applyWrites_eq]
@[simp] theorem State.applyWrites_a (s : State) (ws : List Host.Cell) : (s.applyWrites ws).a = s.a := by
  rw [State.applyWrites_eq]
@[simp] theorem State.applyWrites_b (s : State) (ws : List Host.Cell) : (s.applyWrites ws).b = s.b := by
  rw [State.applyWrites_eq]
@[simp] theorem State.applyWrites_acc (s : State) (ws : List Host.Cell) : (s.applyWrites ws).acc = s.acc := by
  rw [State.applyWrites_eq]
@[simp] theorem State.applyWrites_flags (s : State) (ws : List Host.Cell) : (s.applyWrites ws).flags = s.flags := by
  rw [State.applyWrites_eq]
@[simp] theorem State.applyWrites_kbd (s : State) (ws : List Host.Cell) : (s.applyWrites ws).kbd = s.kbd := by
  rw [State.applyWrites_eq]
@[simp] theorem State.applyWrites_pc (s : State) (ws : List Host.Cell) : (s.applyWrites ws).pc = s.pc := by
  rw [State.applyWrites_eq]
@[simp] theorem State.applyWrites_sp (s : State) (ws : List Host.Cell) : (s.applyWrites ws).sp = s.sp := by
  rw [State.applyWrites_eq]
@[simp] theorem State.applyWrites_ras (s : State) (ws : List Host.Cell) : (s.applyWrites ws).ras = s.ras := by
  rw [State.applyWrites_eq]
@[simp] theorem State.applyWrites_asp (s : State) (ws : List Host.Cell) : (s.applyWrites ws).asp = s.asp := by
  rw [State.applyWrites_eq]
@[simp] theorem State.applyWrites_run (s : State) (ws : List Host.Cell) : (s.applyWrites ws).run = s.run := by
  rw [State.applyWrites_eq]
@[simp] theorem State.applyWrites_cause (s : State) (ws : List Host.Cell) : (s.applyWrites ws).cause = s.cause := by
  rw [State.applyWrites_eq]
@[simp] theorem State.applyWrites_icount (s : State) (ws : List Host.Cell) : (s.applyWrites ws).icount = s.icount := by
  rw [State.applyWrites_eq]
@[simp] theorem State.applyWrites_cfg (s : State) (ws : List Host.Cell) : (s.applyWrites ws).cfg = s.cfg := by
  rw [State.applyWrites_eq]
@[simp] theorem State.applyWrites_trace (s : State) (ws : List Host.Cell) : (s.applyWrites ws).trace = s.trace := by
  rw [State.applyWrites_eq]
@[simp] theorem State.applyWrites_env (s : State) (ws : List Host.Cell) : (s.applyWrites ws).env = s.env := by
  rw [State.applyWrites_eq]
@[simp] theorem State.applyWrites_size (s : State) (ws : List Host.Cell) : (s.applyWrites ws).size = s.size := by
  unfold State.size; simp

/-- The writes read only the memory and the parameters of a state. -/
theorem State.applyWrites_mem_congr {s t : State} (hm : s.mem = t.mem) (hc : s.cfg = t.cfg) (ws : List Host.Cell) :
    (s.applyWrites ws).mem = (t.applyWrites ws).mem := by
  induction ws generalizing s t with
  | nil => exact hm
  | cons w rest ih => exact ih (by simp [hm, hc, State.size]) hc

/-! ### takeRegsAndWrites -/

@[simp] theorem State.takeRegsAndWrites_a (s : State) (r : Octet × List Host.Cell) : (s.takeRegsAndWrites r).a = s.a := by
  simp [State.takeRegsAndWrites]
@[simp] theorem State.takeRegsAndWrites_b (s : State) (r : Octet × List Host.Cell) : (s.takeRegsAndWrites r).b = s.b := by
  simp [State.takeRegsAndWrites]
@[simp] theorem State.takeRegsAndWrites_acc (s : State) (r : Octet × List Host.Cell) : (s.takeRegsAndWrites r).acc = s.acc := by
  simp [State.takeRegsAndWrites]
@[simp] theorem State.takeRegsAndWrites_flags (s : State) (r : Octet × List Host.Cell) : (s.takeRegsAndWrites r).flags = s.flags := by
  simp [State.takeRegsAndWrites]
@[simp] theorem State.takeRegsAndWrites_kbd (s : State) (r : Octet × List Host.Cell) : (s.takeRegsAndWrites r).kbd = s.kbd := by
  simp [State.takeRegsAndWrites]
@[simp] theorem State.takeRegsAndWrites_pc (s : State) (r : Octet × List Host.Cell) : (s.takeRegsAndWrites r).pc = s.pc := by
  simp [State.takeRegsAndWrites]
@[simp] theorem State.takeRegsAndWrites_sp (s : State) (r : Octet × List Host.Cell) : (s.takeRegsAndWrites r).sp = s.sp := by
  simp [State.takeRegsAndWrites]
@[simp] theorem State.takeRegsAndWrites_ras (s : State) (r : Octet × List Host.Cell) : (s.takeRegsAndWrites r).ras = s.ras := by
  simp [State.takeRegsAndWrites]
@[simp] theorem State.takeRegsAndWrites_asp (s : State) (r : Octet × List Host.Cell) : (s.takeRegsAndWrites r).asp = s.asp := by
  simp [State.takeRegsAndWrites]
@[simp] theorem State.takeRegsAndWrites_run (s : State) (r : Octet × List Host.Cell) : (s.takeRegsAndWrites r).run = s.run := by
  simp [State.takeRegsAndWrites]
@[simp] theorem State.takeRegsAndWrites_cause (s : State) (r : Octet × List Host.Cell) : (s.takeRegsAndWrites r).cause = s.cause := by
  simp [State.takeRegsAndWrites]
@[simp] theorem State.takeRegsAndWrites_icount (s : State) (r : Octet × List Host.Cell) : (s.takeRegsAndWrites r).icount = s.icount := by
  simp [State.takeRegsAndWrites]
@[simp] theorem State.takeRegsAndWrites_cfg (s : State) (r : Octet × List Host.Cell) : (s.takeRegsAndWrites r).cfg = s.cfg := by
  simp [State.takeRegsAndWrites]
@[simp] theorem State.takeRegsAndWrites_trace (s : State) (r : Octet × List Host.Cell) : (s.takeRegsAndWrites r).trace = s.trace := by
  simp [State.takeRegsAndWrites]
@[simp] theorem State.takeRegsAndWrites_env (s : State) (r : Octet × List Host.Cell) : (s.takeRegsAndWrites r).env = s.env := by
  simp [State.takeRegsAndWrites]
@[simp] theorem State.takeRegsAndWrites_size (s : State) (r : Octet × List Host.Cell) : (s.takeRegsAndWrites r).size = s.size := by
  unfold State.size; simp
@[simp] theorem State.takeRegsAndWrites_x (s : State) (r : Octet × List Host.Cell) : (s.takeRegsAndWrites r).x = r.1 := by
  simp [State.takeRegsAndWrites]
@[simp] theorem State.takeRegsAndWrites_mem (s : State) (r : Octet × List Host.Cell) : (s.takeRegsAndWrites r).mem = (s.applyWrites r.2).mem :=
  State.applyWrites_mem_congr (s := { s with x := r.1 }) (t := s) rfl rfl _

/-! ### takeStack -/

@[simp] theorem State.takeStack_x (s : State) (r : Word × Int × List Host.Cell) : (s.takeStack r).x = s.x := by
  simp [State.takeStack]
@[simp] theorem State.takeStack_a (s : State) (r : Word × Int × List Host.Cell) : (s.takeStack r).a = s.a := by
  simp [State.takeStack]
@[simp] theorem State.takeStack_b (s : State) (r : Word × Int × List Host.Cell) : (s.takeStack r).b = s.b := by
  simp [State.takeStack]
@[simp] theorem State.takeStack_flags (s : State) (r : Word × Int × List Host.Cell) : (s.takeStack r).flags = s.flags := by
  simp [State.takeStack]
@[simp] theorem State.takeStack_kbd (s : State) (r : Word × Int × List Host.Cell) : (s.takeStack r).kbd = s.kbd := by
  simp [State.takeStack]
@[simp] theorem State.takeStack_pc (s : State) (r : Word × Int × List Host.Cell) : (s.takeStack r).pc = s.pc := by
  simp [State.takeStack]
@[simp] theorem State.takeStack_ras (s : State) (r : Word × Int × List Host.Cell) : (s.takeStack r).ras = s.ras := by
  simp [State.takeStack]
@[simp] theorem State.takeStack_asp (s : State) (r : Word × Int × List Host.Cell) : (s.takeStack r).asp = s.asp := by
  simp [State.takeStack]
@[simp] theorem State.takeStack_run (s : State) (r : Word × Int × List Host.Cell) : (s.takeStack r).run = s.run := by
  simp [State.takeStack]
@[simp] theorem State.takeStack_cause (s : State) (r : Word × Int × List Host.Cell) : (s.takeStack r).cause = s.cause := by
  simp [State.takeStack]
@[simp] theorem State.takeStack_icount (s : State) (r : Word × Int × List Host.Cell) : (s.takeStack r).icount = s.icount := by
  simp [State.takeStack]
@[simp] theorem State.takeStack_cfg (s : State) (r : Word × Int × List Host.Cell) : (s.takeStack r).cfg = s.cfg := by
  simp [State.takeStack]
@[simp] theorem State.takeStack_trace (s : State) (r : Word × Int × List Host.Cell) : (s.takeStack r).trace = s.trace := by
  simp [State.takeStack]
@[simp] theorem State.takeStack_env (s : State) (r : Word × Int × List Host.Cell) : (s.takeStack r).env = s.env := by
  simp [State.takeStack]
@[simp] theorem State.takeStack_size (s : State) (r : Word × Int × List Host.Cell) : (s.takeStack r).size = s.size := by
  unfold State.size; simp
@[simp] theorem State.takeStack_acc (s : State) (r : Word × Int × List Host.Cell) : (s.takeStack r).acc = r.1 := by
  simp [State.takeStack]
@[simp] theorem State.takeStack_sp (s : State) (r : Word × Int × List Host.Cell) : (s.takeStack r).sp = s.wrap r.2.1 := by
  simp [State.takeStack]
@[simp] theorem State.takeStack_mem (s : State) (r : Word × Int × List Host.Cell) : (s.takeStack r).mem = (s.applyWrites r.2.2).mem :=
  State.applyWrites_mem_congr (s := { s with acc := r.1, sp := s.wrap r.2.1 }) (t := s) rfl rfl _

/-! ### pollKeyboard -/

@[simp] theorem State.pollKeyboard_mem (s : State) : (s.pollKeyboard).mem = s.mem := by
  unfold State.pollKeyboard; split <;> simp
@[simp] theorem State.pollKeyboard_x (s : State) : (s.pollKeyboard).x = s.x := by
  unfold State.pollKeyboard; split <;> simp
@[simp] theorem State.pollKeyboard_a (s : State) : (s.pollKeyboard).a = s.a := by
  unfold State.pollKeyboard; split <;> simp
@[simp] theorem State.pollKeyboard_b (s : State) : (s.pollKeyboard).b = s.b := by
  unfold State.pollKeyboard; split <;> simp
@[simp] theorem State.pollKeyboard_acc (s : State) : (s.pollKeyboard).acc = s.acc := by
  unfold State.pollKeyboard; split <;> simp
@[simp] theorem State.pollKeyboard_flags (s : State) : (s.pollKeyboard).flags = s.flags := by
  unfold State.pollKeyboard; split <;> simp
@[simp] theorem State.pollKeyboard_pc (s : State) : (s.pollKeyboard).pc = s.pc := by
  unfold State.pollKeyboard; split <;> simp
@[simp] theorem State.pollKeyboard_sp (s : State) : (s.pollKeyboard).sp = s.sp := by
  unfold State.pollKeyboard; split <;> simp
@[simp] theorem State.pollKeyboard_ras (s : State) : (s.pollKeyboard).ras = s.ras := by
  unfold State.pollKeyboard; split <;> simp
@[simp] theorem State.pollKeyboard_asp (s : State) : (s.pollKeyboard).asp = s.asp := by
  unfold State.pollKeyboard; split <;> simp
@[simp] theorem State.pollKeyboard_run (s : State) : (s.pollKeyboard).run = s.run := by
  unfold State.pollKeyboard; split <;> simp
@[simp] theorem State.pollKeyboard_cause (s : State) : (s.pollKeyboard).cause = s.cause := by
  unfold State.pollKeyboard; split <;> simp
@[simp] theorem State.pollKeyboard_icount (s : State) : (s.pollKeyboard).icount = s.icount := by
  unfold State.pollKeyboard; split <;> simp
@[simp] theorem State.pollKeyboard_cfg (s : State) : (s.pollKeyboard).cfg = s.cfg := by
  unfold State.pollKeyboard; split <;> simp
@[simp] theorem State.pollKeyboard_size (s : State) : (s.pollKeyboard).size = s.size := by
  unfold State.size; simp

/-! ### count -/

@[simp] theorem State.count_mem (s : State) : (s.count).mem = s.mem := by
  unfold State.count; split <;> rfl
@[simp] theorem State.count_x (s : State) : (s.count).x = s.x := by
  unfold State.count; split <;> rfl
@[simp] theorem State.count_a (s : State) : (s.count).a = s.a := by
  unfold State.count; split <;> rfl
@[simp] theorem State.count_b (s : State) : (s.count).b = s.b := by
  unfold State.count; split <;> rfl
@[simp] theorem State.count_acc (s : State) : (s.count).acc = s.acc := by
  unfold State.count; split <;> rfl
@[simp] theorem State.count_flags (s : State) : (s.count).flags = s.flags := by
  unfold State.count; split <;> rfl
@[simp] theorem State.count_kbd (s : State) : (s.count).kbd = s.kbd := by
  unfold State.count; split <;> rfl
@[simp] theorem State.count_pc (s : State) : (s.count).pc = s.pc := by
  unfold State.count; split <;> rfl
@[simp] theorem State.count_sp (s : State) : (s.count).sp = s.sp := by
  unfold State.count; split <;> rfl
@[simp] theorem State.count_ras (s : State) : (s.count).ras = s.ras := by
  unfold State.count; split <;> rfl
@[simp] theorem State.count_asp (s : State) : (s.count).asp = s.asp := by
  unfold State.count; split <;> rfl
@[simp] theorem State.count_run (s : State) : (s.count).run = s.run := by
  unfold State.count; split <;> rfl
@[simp] theorem State.count_cause (s : State) : (s.count).cause = s.cause := by
  unfold State.count; split <;> rfl
@[simp] theorem State.count_cfg (s : State) : (s.count).cfg = s.cfg := by
  unfold State.count; split <;> rfl
@[simp] theorem State.count_trace (s : State) : (s.count).trace = s.trace := by
  unfold State.count; split <;> rfl
@[simp] theorem State.count_env (s : State) : (s.count).env = s.env := by
  unfold State.count; split <;> rfl
@[simp] theorem State.count_size (s : State) : (s.count).size = s.size := by
  unfold State.size; simp

/-! ### telemetry -/

@[simp] theorem State.telemetry_mem (s : State) : (s.telemetry).mem = s.mem := by
  unfold State.telemetry; split <;> rfl
@[simp] theorem State.telemetry_x (s : State) : (s.telemetry).x = s.x := by
  unfold State.telemetry; split <;> rfl
@[simp] theorem State.telemetry_a (s : State) : (s.telemetry).a = s.a := by
  unfold State.telemetry; split <;> rfl
@[simp] theorem State.telemetry_b (s : State) : (s.telemetry).b = s.b := by
  unfold State.telemetry; split <;> rfl
@[simp] theorem State.telemetry_acc (s : State) : (s.telemetry).acc = s.acc := by
  unfold State.telemetry; split <;> rfl
@[simp] theorem State.telemetry_flags (s : State) : (s.telemetry).flags = s.flags := by
  unfold State.telemetry; split <;> rfl
@[simp] theorem State.telemetry_kbd (s : State) : (s.telemetry).kbd = s.kbd := by
  unfold State.telemetry; split <;> rfl
@[simp] theorem State.telemetry_pc (s : State) : (s.telemetry).pc = s.pc := by
  unfold State.telemetry; split <;> rfl
@[simp] theorem State.telemetry_sp (s : State) : (s.telemetry).sp = s.sp := by
  unfold State.telemetry; split <;> rfl
@[simp] theorem State.telemetry_ras (s : State) : (s.telemetry).ras = s.ras := by
  unfold State.telemetry; split <;> rfl
@[simp] theorem State.telemetry_asp (s : State) : (s.telemetry).asp = s.asp := by
  unfold State.telemetry; split <;> rfl
@[simp] theorem State.telemetry_run (s : State) : (s.telemetry).run = s.run := by
  unfold State.telemetry; split <;> rfl
@[simp] theorem State.telemetry_cause (s : State) : (s.telemetry).cause = s.cause := by
  unfold State.telemetry; split <;> rfl
@[simp] theorem State.telemetry_icount (s : State) : (s.telemetry).icount = s.icount := by
  unfold State.telemetry; split <;> rfl
@[simp] theorem State.telemetry_cfg (s : State) : (s.telemetry).cfg = s.cfg := by
  unfold State.telemetry; split <;> rfl
@[simp] theorem State.telemetry_env (s : State) : (s.telemetry).env = s.env := by
  unfold State.telemetry; split <;> rfl
@[simp] theorem State.telemetry_size (s : State) : (s.telemetry).size = s.size := by
  unfold State.size; simp

/-! ### advise -/

@[simp] theorem State.advise_mem (s : State) (i : Instr) : (s.advise i).mem = s.mem := by
  unfold State.advise; split <;> rfl
@[simp] theorem State.advise_x (s : State) (i : Instr) : (s.advise i).x = s.x := by
  unfold State.advise; split <;> rfl
@[simp] theorem State.advise_a (s : State) (i : Instr) : (s.advise i).a = s.a := by
  unfold State.advise; split <;> rfl
@[simp] theorem State.advise_b (s : State) (i : Instr) : (s.advise i).b = s.b := by
  unfold State.advise; split <;> rfl
@[simp] theorem State.advise_acc (s : State) (i : Instr) : (s.advise i).acc = s.acc := by
  unfold State.advise; split <;> rfl
@[simp] theorem State.advise_flags (s : State) (i : Instr) : (s.advise i).flags = s.flags := by
  unfold State.advise; split <;> rfl
@[simp] theorem State.advise_kbd (s : State) (i : Instr) : (s.advise i).kbd = s.kbd := by
  unfold State.advise; split <;> rfl
@[simp] theorem State.advise_pc (s : State) (i : Instr) : (s.advise i).pc = s.pc := by
  unfold State.advise; split <;> rfl
@[simp] theorem State.advise_sp (s : State) (i : Instr) : (s.advise i).sp = s.sp := by
  unfold State.advise; split <;> rfl
@[simp] theorem State.advise_ras (s : State) (i : Instr) : (s.advise i).ras = s.ras := by
  unfold State.advise; split <;> rfl
@[simp] theorem State.advise_asp (s : State) (i : Instr) : (s.advise i).asp = s.asp := by
  unfold State.advise; split <;> rfl
@[simp] theorem State.advise_run (s : State) (i : Instr) : (s.advise i).run = s.run := by
  unfold State.advise; split <;> rfl
@[simp] theorem State.advise_cause (s : State) (i : Instr) : (s.advise i).cause = s.cause := by
  unfold State.advise; split <;> rfl
@[simp] theorem State.advise_icount (s : State) (i : Instr) : (s.advise i).icount = s.icount := by
  unfold State.advise; split <;> rfl
@[simp] theorem State.advise_cfg (s : State) (i : Instr) : (s.advise i).cfg = s.cfg := by
  unfold State.advise; split <;> rfl
@[simp] theorem State.advise_env (s : State) (i : Instr) : (s.advise i).env = s.env := by
  unfold State.advise; split <;> rfl
@[simp] theorem State.advise_size (s : State) (i : Instr) : (s.advise i).size = s.size := by
  unfold State.size; simp

/-! ### retire -/

@[simp] theorem State.retire_mem (s : State) (i : Instr) : (s.retire i).mem = s.mem := by
  simp [State.retire]
@[simp] theorem State.retire_x (s : State) (i : Instr) : (s.retire i).x = s.x := by
  simp [State.retire]
@[simp] theorem State.retire_a (s : State) (i : Instr) : (s.retire i).a = s.a := by
  simp [State.retire]
@[simp] theorem State.retire_b (s : State) (i : Instr) : (s.retire i).b = s.b := by
  simp [State.retire]
@[simp] theorem State.retire_acc (s : State) (i : Instr) : (s.retire i).acc = s.acc := by
  simp [State.retire]
@[simp] theorem State.retire_flags (s : State) (i : Instr) : (s.retire i).flags = s.flags := by
  simp [State.retire]
@[simp] theorem State.retire_kbd (s : State) (i : Instr) : (s.retire i).kbd = s.kbd := by
  simp [State.retire]
@[simp] theorem State.retire_pc (s : State) (i : Instr) : (s.retire i).pc = s.pc := by
  simp [State.retire]
@[simp] theorem State.retire_sp (s : State) (i : Instr) : (s.retire i).sp = s.sp := by
  simp [State.retire]
@[simp] theorem State.retire_ras (s : State) (i : Instr) : (s.retire i).ras = s.ras := by
  simp [State.retire]
@[simp] theorem State.retire_asp (s : State) (i : Instr) : (s.retire i).asp = s.asp := by
  simp [State.retire]
@[simp] theorem State.retire_run (s : State) (i : Instr) : (s.retire i).run = s.run := by
  simp [State.retire]
@[simp] theorem State.retire_cause (s : State) (i : Instr) : (s.retire i).cause = s.cause := by
  simp [State.retire]
@[simp] theorem State.retire_cfg (s : State) (i : Instr) : (s.retire i).cfg = s.cfg := by
  simp [State.retire]
@[simp] theorem State.retire_env (s : State) (i : Instr) : (s.retire i).env = s.env := by
  simp [State.retire]
@[simp] theorem State.retire_size (s : State) (i : Instr) : (s.retire i).size = s.size := by
  unfold State.size; simp
@[simp] theorem State.retire_icount (s : State) (i : Instr) : (s.retire i).icount = s.count.icount := by
  simp [State.retire]

end Sys2Proof.Machine
end

