-- ==== Sys2Proof/Laws/Memory.lean ====
section
/-! SUPPORT. The laws of memory: a read after a write, that writes keep the canonical form, and that two memories in it that
read alike are equal. -/

namespace Sys2Proof.Machine

open Sys2Proof

/-! ### Reads after writes -/

@[simp] theorem Memory.read_erase_same (fill : Byte) (m : Memory) (a : Nat) : Memory.read fill (Memory.erase m a) a = fill := by
  induction m with
  | nil => rfl
  | cons c rest ih =>
    obtain ⟨k, v⟩ := c
    by_cases h : k = a <;> simp [Memory.erase, Memory.read, h, ih]

theorem Memory.read_erase_other (fill : Byte) (m : Memory) {a b : Nat} (h : b ≠ a) :
    Memory.read fill (Memory.erase m a) b = Memory.read fill m b := by
  induction m with
  | nil => rfl
  | cons c rest ih =>
    obtain ⟨k, v⟩ := c
    by_cases hk : k = a
    · subst hk
      simp [Memory.erase, Memory.read, ih, h.symm]
    · simp [Memory.erase, Memory.read, hk, ih]

theorem Memory.read_insert_erase_same (fill : Byte) (m : Memory) (a : Nat) (v : Byte) :
    Memory.read fill (Memory.insert (Memory.erase m a) a v) a = v := by
  induction m with
  | nil => simp [Memory.erase, Memory.insert, Memory.read]
  | cons c rest ih =>
    obtain ⟨k, w⟩ := c
    by_cases hk : k = a
    · simpa [Memory.erase, hk] using ih
    · by_cases hlt : a < k <;> simp [Memory.erase, Memory.insert, Memory.read, hk, hlt, ih]

theorem Memory.read_insert_other (fill : Byte) (m : Memory) {a b : Nat} (v : Byte) (h : b ≠ a) :
    Memory.read fill (Memory.insert m a v) b = Memory.read fill m b := by
  induction m with
  | nil => simp [Memory.insert, Memory.read, h.symm]
  | cons c rest ih =>
    obtain ⟨k, w⟩ := c
    by_cases hlt : a < k <;> simp [Memory.insert, Memory.read, hlt, h.symm, ih]

/-- A read of the address just written gives the byte written (R71). -/
@[simp] theorem Memory.read_write_same (fill : Byte) (m : Memory) (a : Nat) (v : Byte) :
    Memory.read fill (Memory.write fill m a v) a = v := by
  unfold Memory.write
  split
  · next h => simp [h]
  · exact Memory.read_insert_erase_same fill m a v

/-- "A write changes only the byte it addresses" (R67). -/
theorem Memory.read_write_other (fill : Byte) (m : Memory) {a b : Nat} (v : Byte) (h : b ≠ a) :
    Memory.read fill (Memory.write fill m a v) b = Memory.read fill m b := by
  unfold Memory.write
  split
  · exact Memory.read_erase_other fill m h
  · exact (Memory.read_insert_other fill _ v h).trans (Memory.read_erase_other fill m h)

/-! ### The canonical form -/

theorem Memory.wfFrom_cons {fill : Byte} {size lo k : Nat} {v : Byte} {rest : Memory} :
    Memory.wfFrom fill size lo ((k, v) :: rest) = true ↔
      lo ≤ k ∧ k < size ∧ v ≠ fill ∧ Memory.wfFrom fill size (k + 1) rest = true := by
  simp [Memory.wfFrom, and_assoc]

theorem Memory.wfFrom_mono {fill : Byte} {size lo lo' : Nat} {m : Memory} (h : lo' ≤ lo)
    (hw : Memory.wfFrom fill size lo m = true) : Memory.wfFrom fill size lo' m = true := by
  cases m with
  | nil => rfl
  | cons c rest =>
    rw [Memory.wfFrom_cons] at hw ⊢
    exact ⟨h.trans hw.1, hw.2⟩

theorem Memory.wfFrom_erase {fill : Byte} {size lo : Nat} {m : Memory} (a : Nat)
    (hw : Memory.wfFrom fill size lo m = true) : Memory.wfFrom fill size lo (Memory.erase m a) = true := by
  induction m generalizing lo with
  | nil => rfl
  | cons c rest ih =>
    obtain ⟨k, v⟩ := c
    rw [Memory.wfFrom_cons] at hw
    have hr := ih hw.2.2.2
    unfold Memory.erase
    split
    · exact Memory.wfFrom_mono (by omega) hr
    · exact Memory.wfFrom_cons.2 ⟨hw.1, hw.2.1, hw.2.2.1, hr⟩

theorem Memory.wfFrom_insert_erase {fill : Byte} {size lo : Nat} {m : Memory} {a : Nat} {v : Byte} (hlo : lo ≤ a)
    (ha : a < size) (hv : v ≠ fill) (hw : Memory.wfFrom fill size lo m = true) :
    Memory.wfFrom fill size lo (Memory.insert (Memory.erase m a) a v) = true := by
  induction m generalizing lo with
  | nil => exact Memory.wfFrom_cons.2 ⟨hlo, ha, hv, rfl⟩
  | cons c rest ih =>
    obtain ⟨k, w⟩ := c
    rw [Memory.wfFrom_cons] at hw
    obtain ⟨h1, h2, h3, h4⟩ := hw
    unfold Memory.erase
    split
    · exact ih hlo (Memory.wfFrom_mono (by omega) h4)
    · unfold Memory.insert
      split
      · exact Memory.wfFrom_cons.2 ⟨hlo, ha, hv, Memory.wfFrom_cons.2 ⟨by omega, h2, h3, Memory.wfFrom_erase a h4⟩⟩
      · exact Memory.wfFrom_cons.2 ⟨h1, h2, h3, ih (by omega) h4⟩

/-- A write below `size` keeps the canonical form. -/
theorem Memory.wf_write {fill : Byte} {size : Nat} {m : Memory} {a : Nat} (v : Byte) (ha : a < size)
    (hw : Memory.wf fill size m = true) : Memory.wf fill size (Memory.write fill m a v) = true := by
  unfold Memory.write
  split
  · exact Memory.wfFrom_erase a hw
  · next hv => exact Memory.wfFrom_insert_erase (Nat.zero_le _) ha hv hw

/-- Below its lower bound a canonical memory lists nothing. -/
theorem Memory.read_below {fill : Byte} {size lo : Nat} {m : Memory} (hw : Memory.wfFrom fill size lo m = true) {a : Nat}
    (ha : a < lo) : Memory.read fill m a = fill := by
  induction m generalizing lo with
  | nil => rfl
  | cons c rest ih =>
    obtain ⟨k, v⟩ := c
    rw [Memory.wfFrom_cons] at hw
    have : k ≠ a := by omega
    simpa [Memory.read, this] using ih hw.2.2.2 (by omega)

theorem Memory.eq_of_wfFrom {fill : Byte} {size lo lo' : Nat} {m m' : Memory} (hw : Memory.wfFrom fill size lo m = true)
    (hw' : Memory.wfFrom fill size lo' m' = true) (h : ∀ a, Memory.read fill m a = Memory.read fill m' a) : m = m' := by
  induction m generalizing m' lo lo' with
  | nil =>
    cases m' with
    | nil => rfl
    | cons c rest =>
      obtain ⟨k, v⟩ := c
      have := h k
      rw [Memory.wfFrom_cons] at hw'
      exact absurd (by simpa [Memory.read] using this.symm) hw'.2.2.1
  | cons c rest ih =>
    obtain ⟨k, v⟩ := c
    rw [Memory.wfFrom_cons] at hw
    cases m' with
    | nil => exact absurd (by simpa [Memory.read] using h k) hw.2.2.1
    | cons c' rest' =>
      obtain ⟨k', v'⟩ := c'
      rw [Memory.wfFrom_cons] at hw'
      obtain ⟨_, _, hv, hr⟩ := hw
      obtain ⟨_, _, hv', hr'⟩ := hw'
      have hk : k = k' := by
        rcases Nat.lt_trichotomy k k' with hlt | heq | hgt
        · have := h k
          simp only [Memory.read, if_true, if_neg (show ¬ k' = k by omega)] at this
          exact absurd (this.trans (Memory.read_below hr' (by omega))) hv
        · exact heq
        · have := h k'
          simp only [Memory.read, if_true, if_neg (show ¬ k = k' by omega)] at this
          exact absurd (this.symm.trans (Memory.read_below hr (by omega))) hv'
      subst hk
      have hvv : v = v' := by simpa [Memory.read] using h k
      subst hvv
      congr 1
      refine ih hr hr' fun a => ?_
      by_cases ha : k = a
      · subst ha
        rw [Memory.read_below hr (by omega), Memory.read_below hr' (by omega)]
      · simpa [Memory.read, ha] using h a

/-- Two memories in canonical form that read alike are the same list. -/
theorem Memory.eq_of_wf {fill : Byte} {size : Nat} {m m' : Memory} (hw : Memory.wf fill size m = true)
    (hw' : Memory.wf fill size m' = true) (h : ∀ a, Memory.read fill m a = Memory.read fill m' a) : m = m' :=
  Memory.eq_of_wfFrom hw hw' h

/-- An address from `size` on is never listed. -/
theorem Memory.read_above {fill : Byte} {size lo : Nat} {m : Memory} (hw : Memory.wfFrom fill size lo m = true) {a : Nat}
    (ha : size ≤ a) : Memory.read fill m a = fill := by
  induction m generalizing lo with
  | nil => rfl
  | cons c rest ih =>
    obtain ⟨k, v⟩ := c
    rw [Memory.wfFrom_cons] at hw
    have : k ≠ a := by omega
    simpa [Memory.read, this] using ih hw.2.2.2

end Sys2Proof.Machine
end

