-- ==== Sys2Proof/Laws/Ops.lean ====
section
/-! SUPPORT. What each shared operation can do, said once: reads through `readByte` after each kind of write, the memory a run
of writes leaves, and the ring of return addresses. -/

namespace Sys2Proof.Machine

open Sys2Proof

theorem State.size_pos (s : State) : 0 < s.size := by
  unfold State.size Config.Params.memSize; omega

theorem State.size_ge (s : State) : 65536 ≤ s.size := by
  unfold State.size Config.Params.memSize; omega

theorem State.mod_size_lt (s : State) (a : Nat) : a % s.size < s.size := Nat.mod_lt _ s.size_pos

theorem State.wrap_lt (s : State) (a : Int) : s.wrap a < s.size := by
  have h := s.size_pos
  have h1 := Int.emod_nonneg a (show (s.size : Int) ≠ 0 by omega)
  have h2 := Int.emod_lt_of_pos a (show (0 : Int) < s.size by omega)
  unfold State.wrap; omega

/-- A 16-bit address lies in [0, N). -/
theorem State.addr_lt_size (s : State) (a : Addr16) : a.toNat < s.size := by
  have := a.isLt
  have := s.size_ge
  omega

/-! ### Reading one byte -/

/-- A read depends on the memory and the parameters alone. -/
theorem State.readByte_congr {s t : State} (hm : s.mem = t.mem) (hc : s.cfg = t.cfg) (a : Nat) :
    s.readByte a = t.readByte a := by
  simp [State.readByte, State.size, hm, hc]

theorem State.readByte_writeByte_same (s : State) {a b : Nat} (v : Byte) (h : b % s.size = a % s.size) :
    (s.writeByte a v).readByte b = v := by
  simp [State.readByte, h]

theorem State.readByte_writeByte_other (s : State) {a b : Nat} (v : Byte) (h : b % s.size ≠ a % s.size) :
    (s.writeByte a v).readByte b = s.readByte b := by
  simp [State.readByte, Memory.read_write_other _ _ _ h]

/-- A run of writes leaves every address it does not write. -/
theorem State.readByte_applyWrites_other (s : State) (ws : List Host.Cell) (a : Nat)
    (h : ∀ w ∈ ws, a % s.size ≠ w.1 % s.size) : (s.applyWrites ws).readByte a = s.readByte a := by
  induction ws generalizing s with
  | nil => rfl
  | cons w rest ih =>
    refine (ih (s.writeByte w.1 w.2) fun w' hw' => ?_).trans ?_
    · simpa using h w' (List.mem_cons_of_mem _ hw')
    · exact s.readByte_writeByte_other w.2 (h w (List.mem_cons_self ..))

/-- All that a read finds after a run of writes: the last write there, else what was there before. -/
theorem State.readByte_applyWrites (s : State) (ws : List Host.Cell) (a : Nat) :
    (s.applyWrites ws).readByte a = (lastWriteTo s.size a ws).getD (s.readByte a) := by
  induction ws generalizing s with
  | nil => rfl
  | cons w rest ih =>
    refine (ih (s.writeByte w.1 w.2)).trans ?_
    simp only [State.writeByte_size, lastWriteTo]
    cases lastWriteTo s.size a rest with
    | some v => rfl
    | none =>
      by_cases h : w.1 % s.size = a % s.size
      · simpa [h] using s.readByte_writeByte_same w.2 h.symm
      · simpa [h] using s.readByte_writeByte_other w.2 (Ne.symm h)

/-- Bytes stored from `a` on leave every address they do not cover. -/
theorem State.readByte_storeBytes_other (s : State) (a : Nat) (vs : List Byte) (b : Nat)
    (h : ∀ i, i < vs.length → b % s.size ≠ (a + i) % s.size) : (s.storeBytes a vs).readByte b = s.readByte b := by
  induction vs generalizing s a with
  | nil => rfl
  | cons v rest ih =>
    refine (ih (s.writeByte a v) (a + 1) fun i hi => ?_).trans ?_
    · have := h (i + 1) (by simpa using hi)
      simpa [Nat.add_assoc, Nat.add_comm 1 i] using this
    · exact s.readByte_writeByte_other v (by simpa using h 0 (by simp))

/-- Bytes stored from `a` on, fewer than the address space holds, are read back in order. -/
theorem State.readByte_storeBytes (s : State) (a : Nat) (vs : List Byte) (hn : vs.length ≤ s.size) (i : Nat)
    (hi : i < vs.length) : (s.storeBytes a vs).readByte (a + i) = vs[i] := by
  induction vs generalizing s a i with
  | nil => simp at hi
  | cons v rest ih =>
    cases i with
    | zero =>
      refine (State.readByte_storeBytes_other (s.writeByte a v) (a + 1) rest (a + 0) fun j hj => ?_).trans ?_
      · simp only [List.length_cons] at hn
        simp only [State.writeByte_size, Nat.add_zero]
        intro hc
        have h1 : (a + (1 + j)) % s.size = a % s.size := by rw [← Nat.add_assoc]; exact hc.symm
        have h2 : (1 + j) % s.size = 0 := by
          have := Nat.ModEq.add_left_cancel' a (show a + (1 + j) ≡ a + 0 [MOD s.size] by simpa [Nat.ModEq] using h1)
          simpa [Nat.ModEq] using this
        rw [Nat.mod_eq_of_lt (by omega)] at h2
        omega
      · exact s.readByte_writeByte_same v rfl
    | succ j =>
      have := ih (s.writeByte a v) (a + 1) (by simpa using Nat.le_of_succ_le hn) j (by simpa using hi)
      simpa [State.storeBytes, Nat.add_assoc, Nat.add_comm 1 j] using this

/-! ### The canonical form -/

theorem State.memWf_writeByte {s : State} (a : Nat) (v : Byte)
    (h : Memory.wf (Memory.unlisted s.cfg) s.size s.mem = true) :
    Memory.wf (Memory.unlisted s.cfg) s.size (s.writeByte a v).mem = true :=
  Memory.wf_write v (s.mod_size_lt a) h

theorem State.memWf_applyWrites {s : State} (ws : List Host.Cell)
    (h : Memory.wf (Memory.unlisted s.cfg) s.size s.mem = true) :
    Memory.wf (Memory.unlisted s.cfg) s.size (s.applyWrites ws).mem = true := by
  induction ws generalizing s with
  | nil => exact h
  | cons w rest ih => exact ih (s := s.writeByte w.1 w.2) (State.memWf_writeByte w.1 w.2 h)

theorem State.memWf_storeBytes {s : State} (a : Nat) (vs : List Byte)
    (h : Memory.wf (Memory.unlisted s.cfg) s.size s.mem = true) :
    Memory.wf (Memory.unlisted s.cfg) s.size (s.storeBytes a vs).mem = true := by
  induction vs generalizing s a with
  | nil => exact h
  | cons v rest ih => exact ih (s := s.writeByte a v) (a + 1) (State.memWf_writeByte a v h)

/-- The memory an image is loaded into is canonical. -/
theorem loadImage_wfFrom (fill : Byte) (size addr : Nat) (img : List Byte) (h : addr + img.length ≤ size) :
    Memory.wfFrom fill size addr (loadImage fill addr img) = true := by
  induction img generalizing addr with
  | nil => rfl
  | cons v vs ih =>
    have hv := ih (addr + 1) (by simp only [List.length_cons] at h; omega)
    unfold loadImage
    split
    · exact Memory.wfFrom_mono (by omega) hv
    · next hne => exact Memory.wfFrom_cons.2 ⟨le_refl _, by simp only [List.length_cons] at h; omega, hne, hv⟩

theorem State.reset_memWf : Memory.wf (Memory.unlisted State.reset.cfg) State.reset.size State.reset.mem = true := rfl

/-! ### The return-address ring -/

@[simp] theorem rasSlot_val (asp : BitVec 32) : (rasSlot asp).val = asp.toNat % 16 := rfl

/-- `ASP[3:0]` is `ASP mod 16` for every signed value (R32). -/
theorem rasSlot_signed (asp : BitVec 32) : ((rasSlot asp).val : Int) = asp.toInt % 16 := by
  rw [rasSlot_val, BitVec.toInt_eq_toNat_cond]
  split <;> omega

/-- A return right after a call goes to the return address the call saved. -/
theorem State.popReturn_pushReturn (s : State) (ret target : Nat) :
    ((s.pushReturn ret).jumpTo target).popReturn.pc = ret := by
  simp

end Sys2Proof.Machine
end

