-- ==== Sys2Proof/Laws/PerInstr.lean ====
section
/-! SUPPORT. A statement about every instruction as syntax, proved constructor by constructor: its encoding has its width
(30_encoding.md R91, R95). -/

namespace Sys2Proof.Laws

/-- The encoding of an instruction has exactly the bytes its width says. -/
def EncodeWidth.Statement (i : Instr) : Prop := (encode i).length = i.width

theorem EncodeWidth.ldal (sel : AluInput) (r : RegIdx) : EncodeWidth.Statement (.ldal sel r) := rfl
theorem EncodeWidth.sacc (t : Nibble) : EncodeWidth.Statement (.sacc t) := rfl
theorem EncodeWidth.lsr (t : Nibble) (addr : Addr16) : EncodeWidth.Statement (.lsr t addr) := rfl
theorem EncodeWidth.alu (f : Nibble) : EncodeWidth.Statement (.alu f) := rfl
theorem EncodeWidth.stk (t : Nibble) : EncodeWidth.Statement (.stk t) := rfl
theorem EncodeWidth.jmp (t : Nibble) (addr : Addr16) : EncodeWidth.Statement (.jmp t addr) := rfl
theorem EncodeWidth.jcc (c : Nibble) (off : Byte) : EncodeWidth.Statement (.jcc c off) := rfl
theorem EncodeWidth.movb (t : Nibble) (o1 o2 : Byte) : EncodeWidth.Statement (.movb t o1 o2) := rfl
theorem EncodeWidth.ssp (t : Nibble) (addr : Addr16) : EncodeWidth.Statement (.ssp t addr) := rfl
theorem EncodeWidth.jsr (t : Nibble) (addr : Addr16) : EncodeWidth.Statement (.jsr t addr) := rfl
theorem EncodeWidth.rts (t : Nibble) : EncodeWidth.Statement (.rts t) := rfl
theorem EncodeWidth.undefGpioB (t : Nibble) : EncodeWidth.Statement (.undefGpioB t) := rfl
theorem EncodeWidth.undefGpioC (t : Nibble) : EncodeWidth.Statement (.undefGpioC t) := rfl
theorem EncodeWidth.undefD (t : Nibble) : EncodeWidth.Statement (.undefD t) := rfl
theorem EncodeWidth.undefE (t : Nibble) : EncodeWidth.Statement (.undefE t) := rfl
theorem EncodeWidth.hlt : EncodeWidth.Statement .hlt := rfl
theorem EncodeWidth.ld8 (d : Octet) : EncodeWidth.Statement (.ld8 d) := by
  simp [EncodeWidth.Statement, encode, Instr.width]
theorem EncodeWidth.st8 (d : Octet) : EncodeWidth.Statement (.st8 d) := by
  simp [EncodeWidth.Statement, encode, Instr.width]
theorem EncodeWidth.nop : EncodeWidth.Statement .nop := rfl
theorem EncodeWidth.wscr (o1 o2 : Byte) : EncodeWidth.Statement (.wscr o1 o2) := rfl
theorem EncodeWidth.rkbd (o1 : Byte) : EncodeWidth.Statement (.rkbd o1) := rfl
theorem EncodeWidth.ckbd : EncodeWidth.Statement .ckbd := rfl
theorem EncodeWidth.undefSf7 : EncodeWidth.Statement .undefSf7 := rfl
theorem EncodeWidth.undefSf8to15 (x : BitVec 3) : EncodeWidth.Statement (.undefSf8to15 x) := rfl

end Sys2Proof.Laws
end

