-- ==== Sys2Proof/Laws/Step.lean ====
section
/-! SUPPORT. What a step can do, said once: the cases of the gap phase, of running one instruction and of a whole step. -/

namespace Sys2Proof.Machine

open Sys2Proof

/-- A poll changes KBD, the trace and the environment only as R245 says. -/
theorem State.pollKeyboard_cases (s : State) :
    (s.cfg.kbdEn = false ∧ s.pollKeyboard = s) ∨
    (s.cfg.kbdEn = true ∧ s.pollKeyboard = (s.afterPoll.emit (.kbdPoll s.pollReturns)).orKbd s.pollReturns) := by
  cases h : s.cfg.kbdEn
  · exact .inl ⟨rfl, by simp [State.pollKeyboard, h]⟩
  · exact .inr ⟨rfl, by simp [State.pollKeyboard, h]⟩

/-- The ends of a gap phase (R120). -/
theorem State.gapPhase_cases (s : State) :
    (s.cfg.stepMode = false ∧ s.gapPhase = .ready s.pollKeyboard) ∨
    (s.cfg.stepMode = true ∧ s.consoleFinds = none ∧ s.gapPhase = .done s.afterLook) ∨
    (s.cfg.stepMode = true ∧ s.consoleFinds = some .abort ∧
      s.gapPhase = .done ((s.afterLook.emit (.stepWait .abort)).halt .abort)) ∨
    (s.cfg.stepMode = true ∧ s.consoleFinds = some .continue ∧
      s.gapPhase = .ready (s.afterLook.emit (.stepWait .continue)).pollKeyboard) := by
  cases hm : s.cfg.stepMode
  · exact .inl ⟨rfl, by simp [State.gapPhase, hm]⟩
  · rcases hf : s.consoleFinds with _ | _ | _
    · exact .inr (.inl ⟨rfl, rfl, by simp [State.gapPhase, hm, hf]⟩)
    · exact .inr (.inr (.inr ⟨rfl, rfl, by simp [State.gapPhase, hm, hf]⟩))
    · exact .inr (.inr (.inl ⟨rfl, rfl, by simp [State.gapPhase, hm, hf]⟩))

/-- Running one instruction gives a next state exactly when its handler does, and retires it. -/
theorem State.runInstr_next_iff {s u : State} :
    s.runInstr = .next u ↔ ∃ t, exec s.fetch s = .next t ∧ u = t.retire s.fetch := by
  unfold State.runInstr
  cases h : exec s.fetch s <;> simp [eq_comm]

/-- Everything a step that gives a next state can be (R120): the machine was running, and either the gap phase ended the step
or it was followed by one instruction, executed and retired. -/
theorem step_next_iff {s u : State} :
    step s = .next u ↔ s.run = .running ∧
      (s.gapPhase = .done u ∨ ∃ t v, s.gapPhase = .ready t ∧ exec t.fetch t = .next v ∧ u = v.retire t.fetch) := by
  unfold step
  cases hr : s.run with
  | halted => simp
  | running =>
    cases hg : s.gapPhase with
    | done t => simp
    | ready t => simp [State.runInstr_next_iff]

/-- A step of a running machine whose gap phase ends in `ready` runs the fetched instruction. -/
theorem step_of_ready {s t : State} (hr : s.run = .running) (hg : s.gapPhase = .ready t) : step s = t.runInstr := by
  simp [step, hr, hg]

/-- The retire step changes ICOUNT and the trace, and what it adds to the trace is telemetry. -/
theorem State.retire_trace (s : State) (i : Instr) :
    (s.retire i).trace = s.trace ++ (if s.cfg.debug then [Event.trace s.pc s.count.icount] else []) ++
      (if s.cfg.debug && changesAsp i && !aspInRange s.asp then [Event.rasAdvisory s.asp.toInt] else []) := by
  unfold State.retire State.advise State.telemetry
  cases hd : s.cfg.debug <;> simp [hd]
  split <;> simp

/-- ICOUNT counts an instruction that leaves the machine running (R35). -/
theorem State.count_icount (s : State) :
    s.count.icount = if s.run = .running then s.icount + 1 else s.icount := by
  unfold State.count
  cases h : s.run <;> simp

/-- The advisory changes the trace alone. -/
theorem State.advise_eq (s : State) (i : Instr) : s.advise i = { s with trace := (s.advise i).trace } := by
  cases h : s.cfg.debug && changesAsp i && !aspInRange s.asp <;> simp only [State.advise, h] <;> rfl

/-- All that the retire step does (R123): it counts, it adds to the trace what `State.retire_trace` says, and nothing else changes. -/
theorem State.retire_eq (s : State) (i : Instr) :
    s.retire i = { s with
      icount := if s.run = .running then s.icount + 1 else s.icount, trace := (s.retire i).trace } := by
  refine (State.advise_eq s.count.telemetry i).trans ?_
  simp [State.count_icount, State.retire]

/-- Decoding the bytes a state holds gives what the fetch gives. -/
theorem State.bytesAt_getD (s : State) (a n k : Nat) (h : k < n) : (s.bytesAt a n).getD k 0 = s.readByte (a + k) := by
  induction n generalizing a k with
  | zero => omega
  | succ n ih =>
    cases k with
    | zero => rfl
    | succ k =>
      have := ih (a + 1) k (by omega)
      simpa [State.bytesAt, Nat.add_assoc, Nat.add_comm 1 k] using this

@[simp] theorem State.bytesAt_length (s : State) (a n : Nat) : (s.bytesAt a n).length = n := by
  induction n generalizing a with
  | zero => rfl
  | succ n ih => simp [State.bytesAt, ih]

end Sys2Proof.Machine
end

