-- ==== Sys2Proof/Tests/Slice0.lean ====
section
/-! SUPPORT. Tests: words written out from the encodings of 30_encoding.md R92, one step on small states with the expected
results of 95_test_vectors.md (named in each comment), the refusals of the assembler's checks, and for every statement with
hypotheses a `test_meets_…` theorem with concrete values that meet them. -/

namespace Sys2Proof.Tests

open Sys2Proof Sys2Proof.Machine

/-- Bytes after an instruction byte, as the decoder sees them. -/
def bytesOf (l : List Byte) : Nat → Byte := fun k => l.getD k 0

/-- 95's common start state: the SOURCE bindings; its COND is a table that holds for condition 1 only. -/
def base : State :=
  State.resetWith { commonParams with openSlots := .source, cond := .table (0xFFFF#256 <<< 16) } [] Env.fresh

/-- `s` with pc = p and bytes from p on. -/
def placed (p : Nat) (l : List Byte) (s : State) : State := State.storeBytes { s with pc := p } p l

/-- One step gives a next state of which `f` holds. -/
def nextIs (s : State) (f : State → Bool) : Bool :=
  match step s with
  | .next t => f t
  | _ => false

/-- A handler gives a next state of which `f` holds. -/
def execIs (i : Instr) (s : State) (f : State → Bool) : Bool :=
  match exec i s with
  | .next t => f t
  | _ => false

/-- x[i] = 0xA0 + i. -/
def regsA0 : Octet := #v[0xA0, 0xA1, 0xA2, 0xA3, 0xA4, 0xA5, 0xA6, 0xA7]

/-- Configuration switches on a state. -/
def withDebug (s : State) : State := { s with cfg := { s.cfg with debug := true } }
def withStep (l : List (Option Ack)) (s : State) : State :=
  { s with cfg := { s.cfg with stepMode := true }, env := { s.env with ackScript := l } }
def withKbd (l : List (Option Byte)) (s : State) : State :=
  { s with cfg := { s.cfg with kbdEn := true }, env := { s.env with kbdScript := l } }
def withScreen (s : State) : State := { s with cfg := { s.cfg with screenEn := true } }

/-! ### Decoding: one word per constructor, from R92 and R95 -/

theorem test_decode_ldal : decode [0b00001011#8] = .ok (.ldal .b 3, []) := rfl
theorem test_decode_ldal_a : decode [0b00000111#8] = .ok (.ldal .a 7, []) := rfl
theorem test_decode_sacc : decode [0b00010011#8] = .ok (.sacc 3, []) := rfl
theorem test_decode_lsr : decode [0b00100101#8, 0x12, 0x34] = .ok (.lsr 5 0x1234, []) := rfl
theorem test_decode_alu : decode [0b00110101#8] = .ok (.alu 5, []) := rfl
theorem test_decode_stk : decode [0b01000001#8] = .ok (.stk 1, []) := rfl
theorem test_decode_jmp : decode [0b01011111#8, 0x12, 0x34] = .ok (.jmp 0xF 0x1234, []) := rfl
theorem test_decode_jcc : decode [0b01100001#8, 0xFE] = .ok (.jcc 1 0xFE, []) := rfl
theorem test_decode_movb : decode [0b01110000#8, 0x10, 0x20] = .ok (.movb 0 0x10 0x20, []) := rfl
theorem test_decode_ssp : decode [0b10001010#8, 0xFF, 0x00] = .ok (.ssp 0xA 0xFF00, []) := rfl
theorem test_decode_jsr : decode [0b10010000#8, 0x20, 0x00] = .ok (.jsr 0 0x2000, []) := rfl
theorem test_decode_rts : decode [0b10101111#8] = .ok (.rts 0xF, []) := rfl
theorem test_decode_undefGpioB : decode [0b10110000#8] = .ok (.undefGpioB 0, []) := rfl
theorem test_decode_undefGpioC : decode [0b11001111#8] = .ok (.undefGpioC 0xF, []) := rfl
theorem test_decode_undefD : decode [0b11010000#8] = .ok (.undefD 0, []) := rfl
theorem test_decode_undefE : decode [0b11101111#8] = .ok (.undefE 0xF, []) := rfl
theorem test_decode_hlt : decode [0b11110000#8] = .ok (.hlt, []) := rfl
theorem test_decode_ld8 :
    decode [0b11110001#8, 1, 2, 3, 4, 5, 6, 7, 8, 9] = .ok (.ld8 #v[1, 2, 3, 4, 5, 6, 7, 8], [9]) := rfl
theorem test_decode_st8 : decode [0b11110010#8, 1, 2, 3, 4, 5, 6, 7, 8] = .ok (.st8 #v[1, 2, 3, 4, 5, 6, 7, 8], []) := rfl
theorem test_decode_nop : decode [0b11110011#8] = .ok (.nop, []) := rfl
theorem test_decode_wscr : decode [0b11110100#8, 0x03, 0x41] = .ok (.wscr 0x03 0x41, []) := rfl
theorem test_decode_rkbd : decode [0b11110101#8, 0x0A] = .ok (.rkbd 0x0A, []) := rfl
theorem test_decode_ckbd : decode [0b11110110#8] = .ok (.ckbd, []) := rfl
theorem test_decode_undefSf7 : decode [0b11110111#8] = .ok (.undefSf7, []) := rfl
theorem test_decode_undefSf8to15 : decode [0b11111101#8] = .ok (.undefSf8to15 5, []) := rfl

/-- The decoder refuses only for want of bytes, by name. -/
theorem test_decode_short : decode [] = .error .noByte ∧ decode [0x50, 0x12] = .error .truncated := ⟨rfl, rfl⟩

/-- Every encoding has its width: the per-instruction law in use. -/
theorem test_encode_width : (encode (.jsr 0 0x2000)).length = 3 := Laws.EncodeWidth.jsr 0 0x2000

/-! ### The assembler's checks refuse ill-formed terms (R100) -/

theorem test_wf_reg : Asm.wellFormed 0 (.ldal .a 8) = false ∧ Asm.wellFormed 0 (.rkbd 8) = false := by decide
theorem test_wf_trait : Asm.wellFormed 0 (.sacc 16) = false ∧ Asm.wellFormed 0 (.alu 16) = false ∧
    Asm.wellFormed 0 (.stk 16) = false ∧ Asm.wellFormed 0 (.lsr 16 0) = false ∧ Asm.wellFormed 0 (.movb 16 0 0) = false ∧
    Asm.wellFormed 0 (.jcc 16 0) = false := by decide
theorem test_wf_addr : Asm.wellFormed 0 (.jmp 65536) = false ∧ Asm.wellFormed 0 (.ssp 65536) = false ∧
    Asm.wellFormed 0 (.jsr 65536) = false ∧ Asm.wellFormed 0 (.lsr 0 65536) = false := by decide
theorem test_wf_byte : Asm.wellFormed 0 (.movb 0 256 0) = false ∧ Asm.wellFormed 0 (.movb 0 0 256) = false ∧
    Asm.wellFormed 0 (.wscr 256 0) = false ∧ Asm.wellFormed 0 (.wscr 0 256) = false ∧
    Asm.wellFormed 0 (.byte 256) = false := by decide
theorem test_wf_octet : Asm.wellFormed 0 (.ld8 [1, 2, 3]) = false ∧
    Asm.wellFormed 0 (.st8With [1, 2, 3, 4, 5, 6, 7, 256]) = false := by decide
theorem test_wf_reach : Asm.wellFormed 200 (.jcc 0 328) = false ∧ Asm.wellFormed 200 (.jcc 0 71) = false ∧
    Asm.wellFormed 200 (.jcc 0 327) = true ∧ Asm.wellFormed 200 (.jcc 0 72) = true := by decide
/-- P5's first line and P1's LDAL (95). -/
theorem test_assemble : assemble 0 (.jcc 1 4) = [0x61, 0x04] ∧ assemble 0x12 (.ldal .b 3) = [0x0B] ∧
    assemble 3 (.jsr 0x10) = [0x90, 0x00, 0x10] := by decide

/-! ### One step per instruction: the hypotheses of its statement met, and the result of a vector -/

/-- L2-LDAL-1. -/
theorem test_meets_LdalLoadsTheSelectedInput : bytesOf [0x0B] 0 = 0x0#4 ++ (1#1 ++ 3#3) ∧
    nextIs (placed 0x100 [0x0B] (base.setReg 3 0x5A)) (fun t => t.b = 0x5A && t.a = 0 && t.pc = 0x101) = true := by decide
/-- L2-LDAL-4, the wrap of pc. -/
theorem test_meets_LdalLoadsTheSelectedInput_a : bytesOf [0x07] 0 = 0x0#4 ++ (0#1 ++ 7#3) ∧
    nextIs (placed 0xFFFF [0x07] (base.setReg 7 0x42)) (fun t => t.a = 0x42 && t.b = 0 && t.pc = 0) = true := by decide
/-- L2-OPEN-1. -/
theorem test_meets_SaccTakesSaccFnsEffect : bytesOf [0x1F] 0 = 0x1#4 ++ 0xF#4 ∧ State.reset.cfg.openSlots = .free ∧
    base.cfg.openSlots = .source ∧ nextIs (placed 0x100 [0x1F] base) (fun t => t.pc = 0x101 && t.x = base.x) = true := by decide
/-- L2-OPEN-6: operands at 0xFFFF and 0x0000. -/
theorem test_meets_LsrTakesLsrFnsEffect : bytesOf [0x25, 0x12, 0x34] 0 = 0x2#4 ++ 0x5#4 ∧ State.reset.cfg.openSlots = .free ∧
    base.cfg.openSlots = .source ∧ nextIs (placed 0xFFFE [0x25, 0x12, 0x34] base) (fun t => t.pc = 1) = true := by decide
/-- L2-OPEN-3. -/
theorem test_meets_AluTakesAluFnsResults : bytesOf [0x35] 0 = 0x3#4 ++ 0x5#4 ∧ State.reset.cfg.openSlots = .free ∧
    base.cfg.openSlots = .source ∧
    nextIs (placed 0 [0x35] base) (fun t => t.acc = 0 && t.flags = 0 && t.pc = 1) = true := by decide
/-- L2-OPEN-4. -/
theorem test_meets_StkTakesStkFnsEffect : bytesOf [0x41] 0 = 0x4#4 ++ 0x1#4 ∧ State.reset.cfg.openSlots = .free ∧
    base.cfg.openSlots = .source ∧ 0xFF00 < base.size ∧
    nextIs (placed 0 [0x41] { base with sp := 0xFF00 }) (fun t => t.sp = 0xFF00 && t.pc = 1) = true := by decide
/-- L2-OPEN-5. -/
theorem test_meets_MovbTakesMovbFnsEffect : bytesOf [0x70, 0x01, 0x02] 0 = 0x7#4 ++ 0x0#4 ∧
    State.reset.cfg.openSlots = .free ∧ base.cfg.openSlots = .source ∧
    nextIs (placed 0x200 [0x70, 0x01, 0x02] base) (fun t => t.pc = 0x203) = true := by decide
/-- L2-SSP-3, operands across the top of memory. -/
theorem test_meets_SspSetsTheStackPointer : bytesOf [0x80, 0x12, 0x34] 0 = 0x8#4 ++ 0x0#4 ∧
    nextIs (placed 0xFFFF [0x80, 0x12, 0x34] base) (fun t => t.sp = 0x1234 && t.pc = 2) = true := by decide
/-- L2-JMP-3. -/
theorem test_meets_JmpReplacesPc : bytesOf [0x50, 0xAB, 0xCD] 0 = 0x5#4 ++ 0x0#4 ∧
    nextIs (placed 0xFFFE [0x50, 0xAB, 0xCD] base) (fun t => t.pc = 0xABCD) = true := by decide
/-- L2-JCC-1 and L2-JCC-5, taken. -/
theorem test_meets_JccGoesToTargetOrFallsThrough : bytesOf [0x61, 0xFE] 0 = 0x6#4 ++ 0x1#4 ∧
    base.condHolds 1 = true ∧ State.reset.cfg.cond = .free ∧
    nextIs (placed 0x100 [0x61, 0xFE] base) (fun t => t.pc = 0xFE) = true ∧
    nextIs (placed 0 [0x61, 0xFE] base) (fun t => t.pc = 0xFFFE) = true := by decide
/-- L2-JCC-2, not taken. -/
theorem test_meets_JccGoesToTargetOrFallsThrough_not_taken : base.condHolds 2 = false ∧
    nextIs (placed 0x100 [0x62, 0xFE] base) (fun t => t.pc = 0x102) = true := by decide
/-- A COND table's last entry is for selector 15 and all four flags, and no other register matters. -/
theorem test_meets_JccGoesToTargetOrFallsThrough_table :
    ({ base with cfg := { base.cfg with cond := .table (1#256 <<< 255) }, flags := 15 } : State).condHolds 15 = true ∧
    ({ base with cfg := { base.cfg with cond := .table (1#256 <<< 255) }, flags := 14 } : State).condHolds 15 = false ∧
    ({ base with acc := 1 } : State).cfg.cond = base.cfg.cond ∧ ({ base with acc := 1 } : State).flags = base.flags := by decide
/-- L2-JSR-3, with the advisory. -/
theorem test_meets_JsrSavesTheReturnAddress : bytesOf [0x90, 0x01, 0x00] 0 = 0x9#4 ++ 0x0#4 ∧
    nextIs (placed 0x10 [0x90, 0x01, 0x00] (withDebug { base with asp := 15 }))
      (fun t => t.ras[15] = 0x13 && t.asp = 16 && t.pc = 0x100 && t.trace = [.trace 0x100 1, .rasAdvisory 16]) = true := by decide
/-- L2-JSR-5: ASP = -1 writes slot 15, no advisory. -/
theorem test_jsr_from_minus_one : nextIs (placed 0x10 [0x90, 0x01, 0x00] (withDebug { base with asp := -1 }))
      (fun t => t.ras[15] = 0x13 && t.asp = 0 && t.trace = [.trace 0x100 1]) = true := by decide
/-- L2-RTS-2, with the advisory. -/
theorem test_meets_RtsReturnsToTheSavedAddress : bytesOf [0xA0] 0 = 0xA#4 ++ 0x0#4 ∧
    nextIs (placed 0 [0xA0] (withDebug base))
      (fun t => t.asp.toInt = -1 && t.pc = 0 && t.trace = [.trace 0 1, .rasAdvisory (-1)]) = true := by decide
/-- L2-RTS-4. -/
theorem test_rts_ignores_trait : nextIs (placed 0x30 [0xAF] { base with asp := 1, ras := base.ras.set 0 0x456 })
      (fun t => t.asp = 0 && t.pc = 0x456 && t.ras[0] = 0x456) = true := by decide
/-- L2-RES-1 to L2-RES-4. -/
theorem test_meets_ReservedOpcodesAreFatal :
    bytesOf [0xB0] 0 = 0xB#4 ++ 0x0#4 ∧ bytesOf [0xCF] 0 = 0xC#4 ++ 0xF#4 ∧ bytesOf [0xD0] 0 = 0xD#4 ++ 0x0#4 ∧
    bytesOf [0xEF] 0 = 0xE#4 ++ 0xF#4 ∧
    nextIs (placed 0x300 [0xB0] { base with icount := 5 })
      (fun t => t.run = .halted && t.cause = .undefGpio && t.pc = 0x300 && t.icount = 5 &&
        t.trace = [.diagnostic .undefGpio]) = true ∧
    nextIs (placed 0x300 [0xEF] base) (fun t => t.run = .halted && t.cause = .undefOpcode && t.pc = 0x300) = true := by decide
/-- L2-SF-13 and L2-SF-15. -/
theorem test_meets_UndefinedSpecialFunctionsAreFatal : bytesOf [0xF7] 0 = 0xF7 ∧ bytesOf [0xFF] 0 = 0xF#4 ++ (1#1 ++ 7#3) ∧
    nextIs (placed 0x400 [0xF7] base) (fun t => t.run = .halted && t.cause = .undefSf && t.pc = 0x400) = true ∧
    nextIs (placed 0x400 [0xFF] base) (fun t => t.run = .halted && t.cause = .undefSf && t.pc = 0x400) = true := by decide
/-- L2-SF-1. -/
theorem test_meets_HltHaltsWithCauseHalt : bytesOf [0xF0] 0 = 0xF0 ∧
    nextIs (placed 5 [0xF0] { base with icount := 5 })
      (fun t => t.run = .halted && t.cause = .halt && t.pc = 5 && t.icount = 5 && t.trace = []) = true := by decide
/-- L2-SF-3: LD8 across the top of memory. -/
theorem test_meets_Ld8LoadsTheNextEightBytes : bytesOf [0xF1] 0 = 0xF1 ∧
    nextIs (placed 0xFFFC [0xF1, 1, 2, 3, 4, 5, 6, 7, 8] base)
      (fun t => t.x = #v[1, 2, 3, 4, 5, 6, 7, 8] && t.pc = 5) = true := by decide
/-- L2-SF-4. -/
theorem test_meets_St8StoresIntoTheNextEightCells : bytesOf [0xF2] 0 = 0xF2 ∧
    nextIs (placed 0x100 [0xF2] { base with x := regsA0 })
      (fun t => t.readByte 0x101 = 0xA0 && t.readByte 0x108 = 0xA7 && t.readByte 0x109 = 0xFF && t.readByte 0x100 = 0xF2 &&
        t.pc = 0x109) = true := by decide
/-- L2-SF-5: ST8 across the top of memory. -/
theorem test_st8_wraps : nextIs (placed 0xFFFA [0xF2] { base with x := regsA0 })
      (fun t => t.readByte 0xFFFF = 0xA4 && t.readByte 0 = 0xA5 && t.readByte 2 = 0xA7 && t.pc = 3) = true := by decide
/-- L2-SF-6. -/
theorem test_meets_NopOnlyAdvances : bytesOf [0xF3] 0 = 0xF3 ∧ base.run = .running ∧
    nextIs (placed 0xFFFF [0xF3] base) (fun t => t.pc = 0 && t.icount = 1) = true := by decide
/-- The gap phase before a NOP, with a byte to OR in (R205). -/
theorem test_meets_NopOnlyAdvances_gap : ∃ u, (placed 0xFFFF [0xF3] (withKbd [some 2] base)).gapPhase = .ready u ∧
    (placed 0xFFFF [0xF3] (withKbd [some 2] base)).run = .running ∧ u.readByte u.pc = 0xF3 ∧
    (placed 0xFFFF [0xF3] (withKbd [some 2] base)).cfg.kbdEn = true ∧
    (placed 0xFFFF [0xF3] (withKbd [some 2] base)).pollReturns = some 2 := ⟨_, rfl, by decide⟩
/-- L2-SF-7 and L2-SF-8. -/
theorem test_meets_WscrEmitsThePairWhenEnabled : bytesOf [0xF4, 3, 0x41] 0 = 0xF4 ∧ (withScreen base).cfg.screenEn = true ∧
    base.cfg.screenEn = false ∧
    nextIs (placed 0 [0xF4, 3, 0x41] (withScreen base)) (fun t => t.trace = [.screenEmit 3 0x41] && t.pc = 3) = true ∧
    nextIs (placed 0 [0xF4, 3, 0x41] base) (fun t => t.trace = [] && t.pc = 3) = true := by decide
/-- L2-SF-10 and L2-SF-11: index bytes above 7. -/
theorem test_meets_RkbdCopiesKbdToTheRegister : bytesOf [0xF5, 0x0A] 0 = 0xF5 ∧
    nextIs (placed 0 [0xF5, 0x0A] { base with kbd := 7 }) (fun t => t.x[2] = 7 && t.kbd = 7 && t.pc = 2) = true ∧
    nextIs (placed 0 [0xF5, 0xFF] { base with kbd := 9 }) (fun t => t.x[7] = 9) = true := by decide
/-- L2-SF-12. -/
theorem test_meets_CkbdClearsKbd : bytesOf [0xF6] 0 = 0xF6 ∧
    nextIs (placed 0 [0xF6] { base with kbd := 0x0F }) (fun t => t.kbd = 0 && t.pc = 1) = true := by decide

/-! ### The other statements' hypotheses, and the gap-phase vectors -/

theorem test_meets_StepRunsDecodedInstruction : (placed 0 [0xF3] base).run = .running ∧
    (placed 0 [0xF3] base).gapPhase = .ready (placed 0 [0xF3] base) ∧
    decode ((placed 0 [0xF3] base).bytesAt 0 maxWidth) = .ok (.nop, List.replicate 8 0xFF) := ⟨rfl, by decide, by rfl⟩

theorem test_meets_HaltedMachineHasNoStep : (base.halt .halt).run = .halted := rfl
theorem test_meets_RunEndsByCause : base.run = .running ∧ (base.halt .undefSf).run = .halted ∧
    (base.halt .undefSf).runEnd = some .faulted ∧ (base.halt .halt).runEnd = some .normal ∧
    (base.halt .abort).runEnd = some .hostEnded := by decide

/-- L2-GAP-5: ABORT before any fetch. -/
theorem test_meets_SingleStepWaitAnswers_abort : (withStep [some .abort] base).run = .running ∧
    (withStep [some .abort] base).cfg.stepMode = true ∧ (withStep [some .abort] base).consoleFinds = some .abort ∧
    nextIs (withStep [some .abort] (withKbd [] base)) (fun t => t.run = .halted && t.cause = .abort && t.pc = 0 &&
      t.icount = 0 && t.trace = [.stepWait .abort]) = true := by decide
/-- L2-GAP-6: CONTINUE, then the poll, then the fetch. -/
theorem test_meets_SingleStepWaitAnswers_continue :
    (withStep [some .continue] base).consoleFinds = some .continue ∧
    (withStep [some .continue] base).env.waits < (withStep [some .continue] base).env.ackScript.length ∧
    (withStep [] base).env.ackScript.length ≤ (withStep [] base).env.waits ∧
    nextIs (placed 0 [0xF5, 0x00] (withStep [some .continue] (withKbd [some 3] base)))
      (fun t => t.trace = [.stepWait .continue, .kbdPoll (some 3)] && t.x[0] = 3) = true := by decide
theorem test_meets_SingleStepWaitAnswers_held : (withStep [none] base).consoleFinds = none ∧
    nextIs (withStep [none] base) (fun t => t.run = .running && t.pc = 0 && t.icount = 0 && t.trace = []) = true := by decide

/-- L2-GAP-1 (its second poll), L2-GAP-4 and L2-GAP-3. -/
theorem test_meets_KeyboardPollOrsTheByteIn : base.cfg.stepMode = false ∧ base.cfg.kbdEn = false ∧
    (withKbd [some 2] base).cfg.kbdEn = true ∧ (withKbd [some 2] base).pollReturns = some 2 ∧
    (withKbd [none] base).pollReturns = none ∧
    (withKbd [none] base).env.polls < (withKbd [none] base).env.kbdScript.length ∧
    base.env.kbdScript.length ≤ base.env.polls ∧
    nextIs (placed 0 [0xF3] (withKbd [some 2] { base with kbd := 5 })) (fun t => t.kbd = 7) = true ∧
    nextIs (placed 0 [0xF3] (withKbd [some 0x80] { base with kbd := 1 })) (fun t => t.kbd = 0x81) = true ∧
    nextIs (placed 0 [0xF3] base) (fun t => t.kbd = 0 && t.trace = []) = true := by decide

/-- L2-GAP-6's state: after CONTINUE the poll is the same. -/
theorem test_meets_KeyboardPollOrsTheByteIn_step_mode :
    (withStep [some .continue] (withKbd [some 2] base)).cfg.stepMode = true ∧
    (withStep [some .continue] (withKbd [some 2] base)).consoleFinds = some .continue ∧
    nextIs (placed 0 [0xF3] (withStep [some .continue] (withKbd [some 2] { base with kbd := 5 })))
      (fun t => t.kbd = 7 && t.trace = [.stepWait .continue, .kbdPoll (some 2)]) = true := by decide

theorem test_meets_KbdStaysZeroWhileDisabled : nextIs (placed 0 [0xF3] base) (fun t => t.kbd = 0) = true ∧
    base.cfg.kbdEn = false ∧ base.kbd = 0 := by decide
theorem test_meets_KbdBitsLastUntilCkbd : nextIs (placed 0 [0xF3] { base with kbd := 5 }) (fun t => t.kbd = 5) = true ∧
    (placed 0 [0xF3] { base with kbd := 5 }).gapPhase = .ready (placed 0 [0xF3] { base with kbd := 5 }) ∧
    (placed 0 [0xF3] { base with kbd := 5 }).fetch ≠ .ckbd := by decide
/-- A step that gives a next state, for the statements about every step and every handler; L2-RST-1's NOP. -/
theorem test_meets_a_step : nextIs (placed 0 [0xF3] base)
    (fun t => t.icount = 1 && t.cfg = base.cfg && t.size = 65536) = true ∧ base.cfg.openSlots = .source := by decide
theorem test_meets_IcountCountsCompletedInstructions : (placed 0 [0xF3] base).gapPhase = .ready (placed 0 [0xF3] base) ∧
    (withStep [none] base).gapPhase = .done (withStep [none] base).afterLook ∧
    nextIs (placed 0 [0xF3] { base with icount := -1 }) (fun t => t.icount = 0) = true := by decide
/-- ASP at the ends of [0, 16). -/
theorem test_meets_RetireEmitsTelemetryInDebugModeOnly : (withDebug base).cfg.debug = true ∧ base.cfg.debug = false ∧
    (16#32).toInt = 16 ∧ (-1#32 : BitVec 32).toInt = -1 ∧
    ((withDebug { base with asp := 15 }).retire (.rts 0)).trace = [.trace 0 1] ∧
    ((withDebug { base with asp := 16 }).retire (.rts 0)).trace = [.trace 0 1, .rasAdvisory 16] ∧
    ((withDebug { base with asp := 16 }).retire .nop).trace = [.trace 0 1] ∧
    (({ base with asp := 16 } : State).retire (.rts 0)).trace = [] := by decide
theorem test_meets_DebugModeChangesOnlyTelemetry : (withDebug base).withoutTelemetry = base.withoutTelemetry ∧
    withDebug base ≠ base := by decide

/-- 95's reset request: everything false, the image F3 F3 F0 (L2-RST-1). -/
def request : BootRequest :=
  { debug := some false, stepMode := some false, screenEn := some false, kbdEn := some false, image := [0xF3, 0xF3, 0xF0],
    operatorAccepts := false, fillByte := 0xFF, openSlots := .source, cond := .free, env := Env.fresh }

/-- L2-RST-6. -/
theorem test_meets_BootNeedsEveryOption : boot { request with stepMode := none } = .error .optionUnset := rfl
/-- L2-RST-1. -/
theorem test_meets_BootLoadsImageThenFiller : ∃ s, boot request = .ok s ∧ request.image.length = 3 ∧ s.readByte 2 = 0xF0 ∧
    s.readByte 3 = 0xFF ∧ s.readByte 0xFFFF = 0xFF ∧ 3 < s.size := ⟨_, rfl, by decide⟩
/-- L2-RST-2: the empty image boots into filler, whose fetch is fatal. -/
theorem test_reset_runs_into_filler :
    nextIs State.reset (fun t => t.run = .halted && t.cause = .undefSf && t.pc = 0 && t.icount = 0) = true := by decide
theorem test_meets_BootSettlesWithGivenOptions : isFatalByte request.fillByte = true ∧ request.image.length ≤ 65536 ∧
    65536 < ({ request with image := List.replicate 65537 0xF3 } : BootRequest).image.length ∧
    ({ request with operatorAccepts := true } : BootRequest).operatorAccepts = true ∧
    request.operatorAccepts = false :=
  ⟨by decide, by decide, (by decide : 65536 < 65537).trans_eq List.length_replicate.symm, rfl, rfl⟩

theorem test_meets_invariant : (placed 0 [0xF3] base).Inv where
  memCanonical := by decide
  pcInRange := by decide
  spInRange := by decide
  rasInRange := by decide
  fillIsFatal := by decide
  causeNoneIffRunning := by decide

theorem test_meets_MemoryWrapsAndHoldsTheLastWrite : 65536 % base.size = 0 % base.size ∧ 1 % base.size ≠ 0 % base.size ∧
    (base.writeByte 65536 5).readByte 0 = 5 ∧ (base.writeByte 65536 5).readByte 1 = 0xFF := by decide
/-- Writing the filler removes the entry, so equal memories are equal data. -/
theorem test_memory_canonical : ((base.writeByte 7 5).writeByte 7 0xFF).mem = [] ∧
    ((base.writeByte 9 1).writeByte 7 2).mem = [(7, 2), (9, 1)] := by decide

/-- The state after an ST8 at 0x100. -/
def stored : State := ((placed 0x100 [0xF2] { base with x := regsA0 }).storeBytes 0x101 regsA0.toList).advance 9

theorem test_meets_StoredBytesAreFetchedNext :
    execIs (.st8 regsA0) (placed 0x100 [0xF2] { base with x := regsA0 }) (fun t => t = stored) = true ∧
    ({ stored with pc := 0x101 } : State).fetch = .rts 0 := by decide

theorem test_meets_EncodeInvertsDecode : decode [0x62, 0x05, 0x99] = .ok (.jcc 2 5, [0x99]) := rfl
theorem test_meets_WidthComesFromTheInstructionByte : opcodeOf 0x21 = opcodeOf 0x2F ∧ opcodeOf 0x21 ≠ 0xF ∧
    traitOf 0x21 = traitOf 0x21 ∧ widthOf 0x2F = 3 := by decide
theorem test_meets_DecoderSplitsEveryByte : widthOf 0x50 ≤ [0x12, 0x34].length + 1 ∧ opcodeOf 0xA7 = 0xA ∧ traitOf 0xA7 = 7 := by
  decide
/-- The ends of the fatal ranges (R98). -/
theorem test_meets_FatalExactlyOnTheFatalBytes : base.cause = .none ∧ isFatalByte 0xAF = false ∧ isFatalByte 0xB0 = true ∧
    isFatalByte 0xEF = true ∧ isFatalByte 0xF0 = false ∧ isFatalByte 0xF6 = false ∧ isFatalByte 0xF7 = true ∧
    nextIs (placed 0 [0xCF] base) (fun t => t.cause = .undefGpio) = true ∧
    nextIs (placed 0 [0xD0] base) (fun t => t.cause = .undefOpcode) = true := by decide
theorem test_meets_LinesAssembleAsTabled : (Asm.jcc 1 4).wellFormed 0 = true ∧ isOctet [1, 2, 3, 4, 5, 6, 7, 255] = true := by decide
theorem test_meets_AssembledJccReachesItsTarget : (Asm.jcc 1 4).wellFormed base.pc = true ∧
    base.condHolds (BitVec.ofNat 4 1) = true := by decide
theorem test_meets_RaiseFatalHaltsAndReports : Cause.isFatal .undefGpio = true := rfl
/-- For the frame statements: an instruction outside each class, and one inside. -/
theorem test_meets_frames : mayWriteRegs .nop = false ∧ writesAluInput .nop = false ∧ writesAcc .nop = false ∧
    writesFlags .nop = false ∧ writesSp .nop = false ∧ writesRas .nop = false ∧ changesAsp .nop = false ∧
    writesKbd .nop = false ∧ haltingCause .nop = none ∧ haltingCause .hlt = some .halt ∧ mayEmit .nop = false ∧
    mayWriteMemory .nop = false ∧ overwritesPc .nop = false ∧
    execIs .nop base (fun t => t.pc = 1) = true := by decide
/-- Of two writes to one address modulo N the later stays; a third address keeps its byte. -/
theorem test_meets_OpenSlotsStoreOnlyWhereTheyWrite_written : 65541 % base.size = 5 % base.size ∧
    (∀ x ∈ [((6, 3) : Host.Cell)], x.1 % base.size ≠ 5 % base.size) ∧
    (base.applyWrites [(5, 1), (65541, 2), (6, 3)]).readByte 5 = 2 ∧
    lastWriteTo base.size 5 [(5, 1), (65541, 2), (6, 3)] = some 2 ∧ lastWriteTo base.size 7 [(5, 1)] = none := by decide
theorem test_meets_OpenSlotsStoreOnlyWhereTheyWrite : (base.saccResult 0).2 = [] ∧ (base.lsrResult 0 0).2 = [] ∧
    (base.stkResult 0).2.2 = [] ∧ (base.movbResult 0 0 0).2 = [] := by decide
/-- R210 with an ST8 over cells that already hold the registers. -/
theorem test_meets_BulkStoreGivesBackTheBulkLoad :
    (∀ i : Fin 8, ({ stored with pc := 0x100 } : State).readByte (0x100 + 1 + i.val) =
      ({ stored with pc := 0x100 } : State).x[i]) ∧
    Memory.wf (Memory.unlisted stored.cfg) stored.size stored.mem = true := by decide
theorem test_meets_BulkStoreGivesBackTheBulkLoad_inv : ({ stored with pc := 0x100 } : State).Inv where
  memCanonical := by decide
  pcInRange := by decide
  spInRange := by decide
  rasInRange := by decide
  fillIsFatal := by decide
  causeNoneIffRunning := by decide
/-- L1-3: a call, and a return to p + 3. -/
theorem test_meets_NestedCallsReturnInReverse : (List.replicate 16 (⟨0x10, 0, 0x2000⟩ : Call)).length = 16 ∧
    (match nestCalls [⟨0x10, 0, 0x2000⟩, ⟨0x2000, 0, 0x3000⟩] base with
      | .next t => returnTargets 2 t
      | _ => []) = [0x2003, 0x13] := by decide

/-! ### The host's questions -/

theorem test_table_word : decodeTableWord 24 0x341251 = some (.jmp 1 0x1234) ∧ decodeTableWord 8 0x0B = some (.ldal .b 3) := by
  decide
theorem test_fetch_word : nextIs (State.reset.withFetchWord 24 0x341251) (fun t => t.pc = 0x1234) = true := by decide

end Sys2Proof.Tests
end

/-! PROOFS. The meaning of each instruction, one equation per constructor: later proofs go through these and unfold neither
`exec` nor a handler. -/

namespace Sys2Proof.Machine

open Sys2Proof

section ExecEquations

variable (s : State)

@[simp] theorem exec_ldal (sel : AluInput) (r : RegIdx) :
    exec (.ldal sel r) s = .next ((s.setAluInput sel (s.getReg r)).advance 1) := rfl

@[simp] theorem exec_sacc (t : Nibble) :
    exec (.sacc t) s = .next ((s.takeRegsAndWrites (s.saccResult t)).advance 1) := rfl

@[simp] theorem exec_lsr (t : Nibble) (addr : Addr16) :
    exec (.lsr t addr) s = .next ((s.takeRegsAndWrites (s.lsrResult t addr)).advance 3) := rfl

@[simp] theorem exec_alu (f : Nibble) :
    exec (.alu f) s = .next (State.advance { s with acc := (s.aluResult f).1, flags := (s.aluResult f).2 } 1) := rfl

@[simp] theorem exec_stk (t : Nibble) :
    exec (.stk t) s = .next ((s.takeStack (s.stkResult t)).advance 1) := rfl

@[simp] theorem exec_jmp (t : Nibble) (addr : Addr16) :
    exec (.jmp t addr) s = .next (s.jumpTo addr.toNat) := rfl

@[simp] theorem exec_jcc (c : Nibble) (off : Byte) :
    exec (.jcc c off) s = .next (s.jumpTo (if s.condHolds c then s.relTarget off else (s.pc + 2) % s.size)) := rfl

@[simp] theorem exec_movb (t : Nibble) (o1 o2 : Byte) :
    exec (.movb t o1 o2) s = .next ((s.takeRegsAndWrites (s.movbResult t o1 o2)).advance 3) := rfl

@[simp] theorem exec_ssp (t : Nibble) (addr : Addr16) :
    exec (.ssp t addr) s = .next (State.advance { s with sp := addr.toNat } 3) := rfl

@[simp] theorem exec_jsr (t : Nibble) (addr : Addr16) :
    exec (.jsr t addr) s = .next ((s.pushReturn ((s.pc + 3) % s.size)).jumpTo addr.toNat) := rfl

@[simp] theorem exec_rts (t : Nibble) : exec (.rts t) s = .next s.popReturn := rfl

@[simp] theorem exec_undefGpioB (t : Nibble) : exec (.undefGpioB t) s = .next (s.raiseFatal .undefGpio) := rfl

@[simp] theorem exec_undefGpioC (t : Nibble) : exec (.undefGpioC t) s = .next (s.raiseFatal .undefGpio) := rfl

@[simp] theorem exec_undefD (t : Nibble) : exec (.undefD t) s = .next (s.raiseFatal .undefOpcode) := rfl

@[simp] theorem exec_undefE (t : Nibble) : exec (.undefE t) s = .next (s.raiseFatal .undefOpcode) := rfl

@[simp] theorem exec_hlt : exec .hlt s = .next (s.halt .halt) := rfl

@[simp] theorem exec_ld8 (d : Octet) : exec (.ld8 d) s = .next (State.advance { s with x := d } 9) := rfl

@[simp] theorem exec_st8 (d : Octet) :
    exec (.st8 d) s = .next ((s.storeBytes (s.pc + 1) s.x.toList).advance 9) := rfl

@[simp] theorem exec_nop : exec .nop s = .next (s.advance 1) := rfl

@[simp] theorem exec_wscr (o1 o2 : Byte) : exec (.wscr o1 o2) s = .next ((s.writeScreen o1 o2).advance 3) := rfl

@[simp] theorem exec_rkbd (o1 : Byte) :
    exec (.rkbd o1) s = .next ((s.setReg (regOfByte o1) s.kbd).advance 2) := rfl

@[simp] theorem exec_ckbd : exec .ckbd s = .next (State.advance { s with kbd := 0 } 1) := rfl

@[simp] theorem exec_undefSf7 : exec .undefSf7 s = .next (s.raiseFatal .undefSf) := rfl

@[simp] theorem exec_undefSf8to15 (x : BitVec 3) :
    exec (.undefSf8to15 x) s = .next (s.raiseFatal .undefSf) := rfl

end ExecEquations

/-! ### What no handler writes -/

/-- ICOUNT belongs to the retire step (R123), the environment to the gap phase (R120), and nothing writes the parameters (R7). -/
theorem exec_keeps_icount_cfg_env {i : Instr} {s t : State} (h : exec i s = .next t) :
    t.icount = s.icount ∧ t.cfg = s.cfg ∧ t.env = s.env := by
  cases i
  all_goals
    simp at h
    subst h
    simp

/-- Outside WSCR (R206) and the fatal encodings (R231) a handler appends nothing to the trace. -/
theorem exec_keeps_trace {i : Instr} {s t : State} (h : exec i s = .next t) (hi : mayEmit i = false) :
    t.trace = s.trace := by
  cases i
  case wscr | undefGpioB | undefGpioC | undefD | undefE | undefSf7 | undefSf8to15 => cases hi
  all_goals
    simp at h
    subst h
    simp

/-- Settles O55, from the two frames above: what no handler writes, and which handlers emit. -/
theorem handlersLeaveCountParametersAndTrace : Obligations.HandlersLeaveCountParametersAndTrace := by
  intro i s t h
  obtain ⟨hcount, hcfg, henv⟩ := exec_keeps_icount_cfg_env h
  exact ⟨hcount, hcfg, henv, exec_keeps_trace h⟩

end Sys2Proof.Machine

/-! PROOFS. Boot (R270 to R273): what a loaded image reads as, and what a successful boot says of request and state. -/

namespace Sys2Proof.Machine

open Sys2Proof

/-- An image loaded at `addr` reads as its own bytes and, past its end, as the filler, whether or not a byte is listed (R272). -/
theorem Memory.read_loadImage (fill : Byte) (addr : Nat) (img : List Byte) (k : Nat) :
    Memory.read fill (loadImage fill addr img) (addr + k) = img.getD k fill := by
  induction img generalizing addr k with
  | nil => rfl
  | cons v vs ih =>
    cases k with
    | zero =>
      by_cases hv : v = fill
      · have hbelow := Memory.read_below (loadImage_wfFrom fill _ (addr + 1) vs le_rfl) (Nat.lt_succ_self addr)
        simpa [loadImage, hv] using hbelow
      · simp [loadImage, Memory.read, hv]
    | succ k =>
      have hrest : Memory.read fill (loadImage fill (addr + 1) vs) (addr + (k + 1)) = vs.getD k fill := by
        rw [← ih (addr + 1) k, Nat.add_assoc, Nat.add_comm 1 k]
      by_cases hv : v = fill <;> simpa [loadImage, Memory.read, hv] using hrest

/-- The parameters `load` builds the machine with, the four options known. -/
def BootRequest.params (r : BootRequest) (debug stepMode screenEn kbdEn : Bool) : Config.Params :=
  { debug := debug, stepMode := stepMode, screenEn := screenEn, kbdEn := kbdEn, growth := r.image.length - 65536,
    fillByte := r.fillByte, openSlots := r.openSlots, cond := r.cond }

/-- The state `load` answers with when it refuses nothing. -/
def BootRequest.loaded (r : BootRequest) (debug stepMode screenEn kbdEn : Bool) : State :=
  State.resetWith (r.params debug stepMode screenEn kbdEn) (loadImage r.fillByte 0 r.image) r.env

theorem BootRequest.load_ok_iff {r : BootRequest} {d st sc k : Bool} {s : State} :
    r.load d st sc k = .ok s ↔
      (r.image.length ≤ 65536 ∨ r.operatorAccepts = true) ∧ isFatalByte r.fillByte = true ∧ s = r.loaded d st sc k := by
  unfold BootRequest.load
  split
  · next hrejected => simp [hrejected]
  · next haccepted =>
    have hsize : r.image.length ≤ 65536 ∨ r.operatorAccepts = true := by
      simpa [or_iff_not_imp_left] using haccepted
    split
    · next hfill => simp [hfill]
    · next hfill =>
      have hfatal : isFatalByte r.fillByte = true := by simpa using hfill
      exact ⟨fun h => ⟨hsize, hfatal, (Except.ok.inj h).symm⟩, fun ⟨_, _, hs⟩ => congrArg Except.ok hs.symm⟩

/-- Everything a successful boot can be (R270): the four options were given, and `load` refused nothing. -/
theorem boot_ok_iff {r : BootRequest} {s : State} :
    boot r = .ok s ↔ ∃ d st sc k, r.debug = some d ∧ r.stepMode = some st ∧ r.screenEn = some sc ∧ r.kbdEn = some k ∧
      r.load d st sc k = .ok s := by
  unfold boot
  split
  · next hd hst hsc hk => simp [hd, hst, hsc, hk]
  · next hunset =>
    constructor
    · intro h
      cases h
    · rintro ⟨d, st, sc, k, hd, hst, hsc, hk, -⟩
      exact absurd hk (hunset d st sc k hd hst hsc)

/-! ### The machine that was loaded -/

section Loaded

variable (r : BootRequest) (d st sc k : Bool)

@[simp] theorem BootRequest.loaded_cfg : (r.loaded d st sc k).cfg = r.params d st sc k := rfl

/-- N is L for a longer image and 65536 otherwise (D31). -/
theorem BootRequest.loaded_size : (r.loaded d st sc k).size = max 65536 r.image.length := by
  have hsize : (r.loaded d st sc k).size = 65536 + (r.image.length - 65536) := rfl
  omega

/-- Below N the memory is the image and then the filler (R272). -/
theorem BootRequest.loaded_readByte {a : Nat} (ha : a < (r.loaded d st sc k).size) :
    (r.loaded d st sc k).readByte a = r.image.getD a r.fillByte := by
  have hread : (r.loaded d st sc k).readByte a =
      Memory.read r.fillByte (loadImage r.fillByte 0 r.image) (a % (r.loaded d st sc k).size) := rfl
  rw [hread, Nat.mod_eq_of_lt ha]
  simpa using Memory.read_loadImage r.fillByte 0 r.image a

end Loaded

/-- Settles O17: a successful boot answers the loaded machine, whose memory reads as the image and then the filler. -/
theorem bootLoadsImageThenFiller : Obligations.BootLoadsImageThenFiller := by
  intro r s h
  obtain ⟨d, st, sc, k, hd, hst, hsc, hk, hload⟩ := boot_ok_iff.1 h
  obtain ⟨haccepted, hfatal, rfl⟩ := BootRequest.load_ok_iff.1 hload
  have hsize := r.loaded_size d st sc k
  refine ⟨hsize, ?image, ?filler, hd, hst, hsc, hk, rfl, rfl, rfl, haccepted, hfatal, rfl⟩
  case image =>
    intro a ha
    rw [r.loaded_readByte d st sc k (by omega), List.getD_eq_getElem _ _ ha]
  case filler =>
    intro a hlen ha
    rw [r.loaded_readByte d st sc k ha, List.getD_eq_default _ _ hlen]

end Sys2Proof.Machine

/-! PROOFS. The end of a run (R236) and its exit status (R254): which cause stands for which end. -/

namespace Sys2Proof.Machine

open Sys2Proof

/-! ### The ends, cause by cause -/

theorem Cause.runEnd_eq_normal_iff {c : Cause} : c.runEnd = some .normal ↔ c = .halt := by
  cases c <;> simp [Cause.runEnd]

theorem Cause.runEnd_eq_faulted_iff {c : Cause} :
    c.runEnd = some .faulted ↔ c = .undefGpio ∨ c = .undefOpcode ∨ c = .undefSf := by
  cases c <;> simp [Cause.runEnd]

theorem Cause.runEnd_eq_hostEnded_iff {c : Cause} : c.runEnd = some .hostEnded ↔ c = .abort := by
  cases c <;> simp [Cause.runEnd]

theorem Cause.isFatal_iff {c : Cause} : c.isFatal = true ↔ c = .undefGpio ∨ c = .undefOpcode ∨ c = .undefSf := by
  cases c <;> simp [Cause.isFatal]

theorem RunEnd.exitStatus_eq_nonzero_iff {e : RunEnd} : e.exitStatus = .nonzero ↔ e = .faulted := by
  cases e <;> simp [RunEnd.exitStatus]

/-- Only a fault exits with a non-zero status, and only the fatal causes are faults (R254). -/
theorem Cause.exitStatus_runEnd_eq_nonzero_iff {c : Cause} :
    c.runEnd.map RunEnd.exitStatus = some .nonzero ↔ c.isFatal = true := by
  simp [Option.map_eq_some_iff, RunEnd.exitStatus_eq_nonzero_iff, Cause.runEnd_eq_faulted_iff, Cause.isFatal_iff]

/-! ### The ends of a state -/

theorem State.runEnd_of_running {s : State} (hr : s.run = .running) : s.runEnd = none := by
  simp [State.runEnd, hr]

theorem State.runEnd_of_halted {s : State} (hr : s.run = .halted) : s.runEnd = s.cause.runEnd := by
  simp [State.runEnd, hr]

/-- A halted machine has no step (R124). -/
theorem step_of_halted {s : State} (hr : s.run = .halted) : step s = .fault (.halted s.cause) := by
  simp [step, hr]

/-- Settles O4: the end of a halted state is the end its cause stands for, and the codes are those of the table. -/
theorem runEndsByCause : Obligations.RunEndsByCause := by
  intro s
  refine ⟨State.runEnd_of_running, ?halted, rfl, rfl, rfl, rfl, rfl, rfl⟩
  case halted =>
    intro hr
    rw [State.runEnd_of_halted hr]
    exact ⟨step_of_halted hr, Cause.runEnd_eq_normal_iff, Cause.runEnd_eq_faulted_iff, Cause.runEnd_eq_hostEnded_iff,
      Cause.exitStatus_runEnd_eq_nonzero_iff⟩

end Sys2Proof.Machine

/-! PROOFS. What the open slots leave in memory (R131 point 3, R61): the four that store leave the bytes of a state to which their
writes were applied in order, so the laws of `applyWrites` answer every read. -/

namespace Sys2Proof.Machine

open Sys2Proof

/-! ### Reads after the parts of an open slot's handler -/

@[simp] theorem State.readByte_advance (s : State) (w a : Nat) : (s.advance w).readByte a = s.readByte a :=
  State.readByte_congr rfl rfl a

@[simp] theorem State.readByte_takeRegsAndWrites (s : State) (r : Octet × List Host.Cell) (a : Nat) :
    (s.takeRegsAndWrites r).readByte a = (s.applyWrites r.2).readByte a :=
  State.readByte_congr (by simp) (by simp) a

@[simp] theorem State.readByte_takeStack (s : State) (r : Word × Int × List Host.Cell) (a : Nat) :
    (s.takeStack r).readByte a = (s.applyWrites r.2.2).readByte a :=
  State.readByte_congr (by simp) (by simp) a

/-! ### Reads after each open slot that stores -/

section OpenSlots

variable {s u : State}

theorem readByte_of_exec_sacc {t : Nibble} (h : exec (.sacc t) s = .next u) (a : Nat) :
    u.readByte a = (s.applyWrites (s.saccResult t).2).readByte a := by
  obtain rfl : _ = u := by simpa using h
  simp

theorem readByte_of_exec_lsr {t : Nibble} {addr : Addr16} (h : exec (.lsr t addr) s = .next u) (a : Nat) :
    u.readByte a = (s.applyWrites (s.lsrResult t addr).2).readByte a := by
  obtain rfl : _ = u := by simpa using h
  simp

theorem readByte_of_exec_stk {t : Nibble} (h : exec (.stk t) s = .next u) (a : Nat) :
    u.readByte a = (s.applyWrites (s.stkResult t).2.2).readByte a := by
  obtain rfl : _ = u := by simpa using h
  simp

theorem readByte_of_exec_movb {t : Nibble} {o1 o2 : Byte} (h : exec (.movb t o1 o2) s = .next u) (a : Nat) :
    u.readByte a = (s.applyWrites (s.movbResult t o1 o2).2).readByte a := by
  obtain rfl : _ = u := by simpa using h
  simp

end OpenSlots

/-! ### The last write to an address -/

theorem State.applyWrites_append (s : State) (before after : List Host.Cell) :
    s.applyWrites (before ++ after) = (s.applyWrites before).applyWrites after := by
  induction before generalizing s with
  | nil => rfl
  | cons w rest ih => exact ih (s.writeByte w.1 w.2)

/-- A write stays when none after it has its address modulo N. -/
theorem State.readByte_applyWrites_last (s : State) {a w : Nat} (before : List Host.Cell) {after : List Host.Cell} (v : Byte)
    (hw : w % s.size = a % s.size) (hafter : ∀ x ∈ after, x.1 % s.size ≠ a % s.size) :
    (s.applyWrites (before ++ (w, v) :: after)).readByte a = v := by
  let written := (s.applyWrites before).writeByte w v
  have hsize : written.size = s.size := by simp [written]
  calc (s.applyWrites (before ++ (w, v) :: after)).readByte a
      = (written.applyWrites after).readByte a := by rw [State.applyWrites_append]; rfl
    _ = written.readByte a :=
        written.readByte_applyWrites_other after a fun x hx => by rw [hsize]; exact (hafter x hx).symm
    _ = v := State.readByte_writeByte_same _ v (by simpa using hw.symm)

/-- Settles O57: each slot leaves what its writes leave, which is the frame and the last write of `applyWrites`. -/
theorem openSlotsStoreOnlyWhereTheyWrite : Obligations.OpenSlotsStoreOnlyWhereTheyWrite := by
  intro s u a
  refine ⟨?saccFrame, ?lsrFrame, ?stkFrame, ?movbFrame, ?sacc, ?lsr, ?stk, ?movb, ?last⟩
  case saccFrame => exact fun t h hw => (readByte_of_exec_sacc h a).trans (s.readByte_applyWrites_other _ a hw)
  case lsrFrame => exact fun t addr h hw => (readByte_of_exec_lsr h a).trans (s.readByte_applyWrites_other _ a hw)
  case stkFrame => exact fun t h hw => (readByte_of_exec_stk h a).trans (s.readByte_applyWrites_other _ a hw)
  case movbFrame => exact fun t o1 o2 h hw => (readByte_of_exec_movb h a).trans (s.readByte_applyWrites_other _ a hw)
  case sacc => exact fun t h => (readByte_of_exec_sacc h a).trans (s.readByte_applyWrites _ a)
  case lsr => exact fun t addr h => (readByte_of_exec_lsr h a).trans (s.readByte_applyWrites _ a)
  case stk => exact fun t h => (readByte_of_exec_stk h a).trans (s.readByte_applyWrites _ a)
  case movb => exact fun t o1 o2 h => (readByte_of_exec_movb h a).trans (s.readByte_applyWrites _ a)
  case last => exact fun before after v w hw hafter => s.readByte_applyWrites_last before v hw hafter

end Sys2Proof.Machine

/-! PROOFS. What the decoder reads (R90, R91): the instruction byte splits into opcode and trait, and it alone says how many
bytes the instruction has; no byte past them is looked at. -/

namespace Sys2Proof

/-! ### The instruction byte -/

theorem opcodeOf_toNat (ib : Byte) : (opcodeOf ib).toNat = ib.toNat / 16 := by
  have hib := ib.isLt
  rw [opcodeOf, BitVec.extractLsb'_toNat, Nat.shiftRight_eq_div_pow]
  omega

theorem traitOf_toNat (ib : Byte) : (traitOf ib).toNat = ib.toNat % 16 := by
  simp [traitOf]

/-- Opcode and trait together are the whole byte (R90). -/
theorem eq_of_opcodeOf_traitOf {ib jb : Byte} (hop : opcodeOf ib = opcodeOf jb) (ht : traitOf ib = traitOf jb) : ib = jb := by
  rw [← instrByte_opcode_trait ib, ← instrByte_opcode_trait jb, hop, ht]

/-! ### The width -/

/-- The widths there are (R91). -/
theorem widthOf_cases (ib : Byte) : widthOf ib = 1 ∨ widthOf ib = 2 ∨ widthOf ib = 3 ∨ widthOf ib = 9 := by
  revert ib; decide

theorem widthOf_pos (ib : Byte) : 0 < widthOf ib := by
  have hw := widthOf_cases ib
  omega

/-- Outside the secondary map the trait does not matter to the width (R91). -/
theorem widthOf_eq_of_opcodeOf {ib jb : Byte} (hop : opcodeOf ib = opcodeOf jb) (hF : opcodeOf ib ≠ 0xF) :
    widthOf ib = widthOf jb := by
  unfold widthOf
  rw [← hop]
  split
  case h_7 h15 => exact absurd (BitVec.eq_of_toNat_eq h15) hF
  all_goals rfl

/-! ### The secondary map -/

theorem decodeSpecial_width (t : Nibble) (b : Nat → Byte) : (decodeSpecial t b).width = widthOf (instrByte 0xF t) := by
  unfold decodeSpecial
  split <;> simp [widthOf, Instr.width, *]

theorem decodeSpecial_congr {t : Nibble} {b b' : Nat → Byte} (h : ∀ k, k < widthOf (instrByte 0xF t) → b' k = b k) :
    decodeSpecial t b' = decodeSpecial t b := by
  unfold decodeSpecial
  split <;> simp [widthOf, octetOf, *]

/-! ### The primary map -/

/-- Opcode 0xF is what the fifteen arms of the primary map before it leave over (R96). -/
theorem opcodeOf_eq_special {ib : Byte} (h : 15 ≤ (opcodeOf ib).toNat) : opcodeOf ib = 0xF := by
  have hlt := (opcodeOf ib).isLt
  exact BitVec.eq_of_toNat_eq (show (opcodeOf ib).toNat = 15 by omega)

/-- The decoded instruction has the width its instruction byte says (R91). -/
theorem decodeBytes_width (b : Nat → Byte) : (decodeBytes b).width = widthOf (b 0) := by
  unfold decodeBytes
  split
  case h_16 =>
    have hF : opcodeOf (b 0) = 0xF := opcodeOf_eq_special (by grind)
    rw [decodeSpecial_width, ← hF, instrByte_opcode_trait]
  all_goals
    next hop => simp [widthOf, hop, Instr.width]

/-- The decoder looks at no byte past the width (R91). -/
theorem decodeBytes_congr {b b' : Nat → Byte} (h : ∀ k, k < widthOf (b 0) → b' k = b k) : decodeBytes b' = decodeBytes b := by
  have h0 : b' 0 = b 0 := h 0 (widthOf_pos _)
  unfold decodeBytes
  rw [h0]
  split
  case h_16 =>
    have hF : opcodeOf (b 0) = 0xF := opcodeOf_eq_special (by grind)
    have hb0 : instrByte 0xF (traitOf (b 0)) = b 0 := by rw [← hF, instrByte_opcode_trait]
    exact decodeSpecial_congr fun k hk => h k (hb0 ▸ hk)
  all_goals
    next hop => simp [h, widthOf, hop]

/-- Settles O26: the width and the bytes read follow the arms of the decoder, opcode by opcode and under 0xF trait by trait. -/
theorem widthComesFromTheInstructionByte : Obligations.WidthComesFromTheInstructionByte := by
  intro b
  exact ⟨decodeBytes_width b, widthOf_cases (b 0), fun b' h => decodeBytes_congr h,
    fun ib hop hF => widthOf_eq_of_opcodeOf hop hF,
    fun ib hop ht => congrArg widthOf (eq_of_opcodeOf_traitOf hop ht)⟩

/-! ### Lists of bytes -/

/-- Only want of bytes keeps the decoder from an instruction (R90, R96). -/
theorem decode_cons_of_widthOf_le {ib : Byte} {rest : List Byte} (h : widthOf ib ≤ rest.length + 1) :
    decode (ib :: rest) =
      .ok (decodeBytes (fun k => (ib :: rest).getD k 0), (ib :: rest).drop (widthOf ib)) := by
  rw [decode, if_neg (Nat.not_lt.2 h)]

/-- Settles O27: the fields are the byte's quotient and remainder by 16, and enough bytes decode. -/
theorem decoderSplitsEveryByte : Obligations.DecoderSplitsEveryByte := by
  intro ib rest
  exact ⟨opcodeOf_toNat ib, traitOf_toNat ib, fun h => ⟨_, decode_cons_of_widthOf_le h⟩⟩

end Sys2Proof

/-! PROOFS. The step around the handler: a halted machine has none (R124), and what the retire step emits (R123, R250, R252). -/

namespace Sys2Proof.Machine

open Sys2Proof

/-- Settles O2: the step of a halted machine is a fault. -/
theorem haltedMachineHasNoStep : Obligations.HaltedMachineHasNoStep := by
  intro s t hr h
  rw [step_of_halted hr] at h
  cases h

/-! ### The condition of the advisory -/

/-- Opcodes 0x9 and 0xA (R252). -/
theorem changesAsp_iff {i : Instr} : changesAsp i = true ↔ (∃ t addr, i = .jsr t addr) ∨ (∃ t, i = .rts t) := by
  cases i <;> simp [changesAsp]

theorem aspInRange_iff {asp : BitVec 32} : aspInRange asp = true ↔ 0 ≤ asp.toInt ∧ asp.toInt < 16 := by
  simp [aspInRange]

/-! ### The events of the retire step -/

section RetireTrace

variable {s : State} {i : Instr}

theorem State.retire_trace_of_not_debug (hd : s.cfg.debug = false) : (s.retire i).trace = s.trace := by
  simp [State.retire_trace, hd]

theorem State.retire_trace_of_advisory (hd : s.cfg.debug = true) (hi : changesAsp i = true) (ha : aspInRange s.asp = false) :
    (s.retire i).trace = s.trace ++ [.trace s.pc (s.retire i).icount, .rasAdvisory s.asp.toInt] := by
  simp [State.retire_trace, hd, hi, ha]

theorem State.retire_trace_of_no_advisory (hd : s.cfg.debug = true) (h : changesAsp i = false ∨ aspInRange s.asp = true) :
    (s.retire i).trace = s.trace ++ [.trace s.pc (s.retire i).icount] := by
  have hno : (changesAsp i && !aspInRange s.asp) = false := by rcases h with h | h <;> simp [h]
  simp [State.retire_trace, hd, hno]

end RetireTrace

/-- Settles O12: the record is `State.retire_eq`, the events are those of the three cases above. -/
theorem retireEmitsTelemetryInDebugModeOnly : Obligations.RetireEmitsTelemetryInDebugModeOnly := by
  intro s i
  refine ⟨s.retire_eq i, State.retire_trace_of_not_debug, ?advisory, ?noAdvisory⟩
  case advisory =>
    intro hd hi hout
    have ha : aspInRange s.asp = false := by
      rw [← Bool.not_eq_true, aspInRange_iff]
      omega
    exact State.retire_trace_of_advisory hd (changesAsp_iff.2 hi) ha
  case noAdvisory =>
    intro hd h
    refine State.retire_trace_of_no_advisory hd (h.imp ?_ aspInRange_iff.2)
    rintro ⟨hjsr, hrts⟩
    rw [← Bool.not_eq_true, changesAsp_iff]
    simp [hjsr, hrts]

end Sys2Proof.Machine

/-! PROOFS. Who writes memory (R64): outside the four open slots that store and ST8, a handler leaves it. -/

namespace Sys2Proof.Machine

open Sys2Proof

/-- Of the handlers only SACC, LSR, STK, MOVB and ST8 write memory (R64). -/
theorem exec_keeps_mem {i : Instr} {s t : State} (h : exec i s = .next t) (hi : mayWriteMemory i = false) : t.mem = s.mem := by
  cases i
  case sacc | lsr | stk | movb | st8 => cases hi
  all_goals
    obtain rfl : _ = t := by simpa using h
    simp

/-- Settles O56: a read depends on memory and parameters, and these instructions leave both. -/
theorem otherInstructionsLeaveMemory : Obligations.OtherInstructionsLeaveMemory := by
  intro i s t h hi
  obtain ⟨-, hcfg, -⟩ := exec_keeps_icount_cfg_env h
  exact State.readByte_congr (exec_keeps_mem h hi) hcfg

end Sys2Proof.Machine

/-! PROOFS. The decoder on the opcodes of data movement, the ALU and the stack pointer (R92, R95), from the two nibbles of the
instruction byte. -/

namespace Sys2Proof

theorem opcodeOf_of_eq_append {ib : Byte} {op t : Nibble} (h : ib = op ++ t) : opcodeOf ib = op :=
  h ▸ opcodeOf_instrByte op t

theorem traitOf_of_eq_append {ib : Byte} {op t : Nibble} (h : ib = op ++ t) : traitOf ib = t :=
  h ▸ traitOf_instrByte op t

section DataOpcodes

variable {b : Nat → Byte} {t : Nibble}

theorem decodeBytes_sacc (h : b 0 = 0x1#4 ++ t) : decodeBytes b = .sacc t := by
  simp [decodeBytes, opcodeOf_of_eq_append h, traitOf_of_eq_append h]

theorem decodeBytes_lsr (h : b 0 = 0x2#4 ++ t) : decodeBytes b = .lsr t (addr16 (b 1) (b 2)) := by
  simp [decodeBytes, opcodeOf_of_eq_append h, traitOf_of_eq_append h]

theorem decodeBytes_alu (h : b 0 = 0x3#4 ++ t) : decodeBytes b = .alu t := by
  simp [decodeBytes, opcodeOf_of_eq_append h, traitOf_of_eq_append h]

theorem decodeBytes_stk (h : b 0 = 0x4#4 ++ t) : decodeBytes b = .stk t := by
  simp [decodeBytes, opcodeOf_of_eq_append h, traitOf_of_eq_append h]

theorem decodeBytes_movb (h : b 0 = 0x7#4 ++ t) : decodeBytes b = .movb t (b 1) (b 2) := by
  simp [decodeBytes, opcodeOf_of_eq_append h, traitOf_of_eq_append h]

theorem decodeBytes_ssp (h : b 0 = 0x8#4 ++ t) : decodeBytes b = .ssp t (addr16 (b 1) (b 2)) := by
  simp [decodeBytes, opcodeOf_of_eq_append h, traitOf_of_eq_append h]

end DataOpcodes

end Sys2Proof

/-! PROOFS. The open slots (R131): what each slot's function returns under either binding, and what taking its result does to the
state. -/

namespace Sys2Proof.Machine

open Sys2Proof

/-! ### The results under each binding -/

section SlotResults

variable {s : State}

theorem State.saccResult_of_free (h : s.cfg.openSlots = .free) (t : Nibble) :
    s.saccResult t = Config.saccFn s.size t s.acc s.x s.sp s.readByte := by
  simp [State.saccResult, h]

theorem State.saccResult_of_source (h : s.cfg.openSlots = .source) (t : Nibble) : s.saccResult t = (s.x, []) := by
  simp [State.saccResult, h]

theorem State.lsrResult_of_free (h : s.cfg.openSlots = .free) (t : Nibble) (addr : Addr16) :
    s.lsrResult t addr = Config.lsrFn s.size t addr s.x s.readByte := by
  simp [State.lsrResult, h]

theorem State.lsrResult_of_source (h : s.cfg.openSlots = .source) (t : Nibble) (addr : Addr16) :
    s.lsrResult t addr = (s.x, []) := by
  simp [State.lsrResult, h]

theorem State.aluResult_of_free (h : s.cfg.openSlots = .free) (f : Nibble) :
    s.aluResult f = Config.aluFn f s.a s.b s.acc s.flags := by
  simp [State.aluResult, h]

theorem State.aluResult_of_source (h : s.cfg.openSlots = .source) (f : Nibble) : s.aluResult f = (s.acc, s.flags) := by
  simp [State.aluResult, h]

theorem State.stkResult_of_free (h : s.cfg.openSlots = .free) (t : Nibble) :
    s.stkResult t = Config.stkFn s.size t s.acc s.sp s.readByte := by
  simp [State.stkResult, h]

theorem State.stkResult_of_source (h : s.cfg.openSlots = .source) (t : Nibble) : s.stkResult t = (s.acc, (s.sp : Int), []) := by
  simp [State.stkResult, h]

theorem State.movbResult_of_free (h : s.cfg.openSlots = .free) (t : Nibble) (o1 o2 : Byte) :
    s.movbResult t o1 o2 = Config.movbFn s.size t o1 o2 s.x s.readByte := by
  simp [State.movbResult, h]

theorem State.movbResult_of_source (h : s.cfg.openSlots = .source) (t : Nibble) (o1 o2 : Byte) :
    s.movbResult t o1 o2 = (s.x, []) := by
  simp [State.movbResult, h]

end SlotResults

/-! ### Taking a result of registers and writes: SACC, LSR and MOVB -/

@[simp] theorem State.applyWrites_nil (s : State) : s.applyWrites [] = s := rfl

/-- Only the registers and memory change (R131 point 3). -/
theorem State.takeRegsAndWrites_eq (s : State) (r : Octet × List Host.Cell) :
    s.takeRegsAndWrites r = { s with x := r.1, mem := (s.applyWrites r.2).mem } := by
  rw [← s.takeRegsAndWrites_mem r, State.takeRegsAndWrites, State.applyWrites_eq]

/-- What SACC, LSR and MOVB share: the handler takes the result `r`, which is `free` or the state's own registers as the state
binds its slots, and advances. -/
theorem State.takeRegsAndWrites_advance_effect {s : State} {r free : Octet × List Host.Cell} (w : Nat)
    (hfree : s.cfg.openSlots = .free → r = free) (hsource : s.cfg.openSlots = .source → r = (s.x, [])) :
    let u := (s.takeRegsAndWrites r).advance w
    u = { s with x := u.x, mem := u.mem, pc := (s.pc + w) % s.size } ∧
      (s.cfg.openSlots = .free → u.x = free.1 ∧ u.mem = (s.applyWrites free.2).mem) ∧
      (s.cfg.openSlots = .source → u.x = s.x ∧ u.mem = s.mem) := by
  refine ⟨?frame, fun h => ?free, fun h => ?source⟩
  case frame => rw [State.takeRegsAndWrites_eq]; rfl
  case free => simp [hfree h]
  case source => simp [hsource h]

/-- Settles O33: the shared effect, of SACC_FN's result. -/
theorem saccTakesSaccFnsEffect : Obligations.SaccTakesSaccFnsEffect := by
  intro s t b hb
  exact ⟨decodeBytes_sacc hb, _, exec_sacc s t,
    State.takeRegsAndWrites_advance_effect 1 (State.saccResult_of_free · t) (State.saccResult_of_source · t)⟩

/-- Settles O34: the shared effect, of LSR_FN's result. -/
theorem lsrTakesLsrFnsEffect : Obligations.LsrTakesLsrFnsEffect := by
  intro s t b hb
  exact ⟨decodeBytes_lsr hb, _, exec_lsr s t _,
    State.takeRegsAndWrites_advance_effect 3 (State.lsrResult_of_free · t _) (State.lsrResult_of_source · t _)⟩

/-- Settles O37: the shared effect, of MOVB_FN's result. -/
theorem movbTakesMovbFnsEffect : Obligations.MovbTakesMovbFnsEffect := by
  intro s t b hb
  exact ⟨decodeBytes_movb hb, _, exec_movb s t _ _,
    State.takeRegsAndWrites_advance_effect 3 (State.movbResult_of_free · t _ _) (State.movbResult_of_source · t _ _)⟩

/-! ### The ALU -/

/-- Settles O35: FLAGS and ACC are the result's two parts, and the SOURCE binding gives back the state's own. -/
theorem aluTakesAluFnsResults : Obligations.AluTakesAluFnsResults := by
  intro s f b hb
  refine ⟨decodeBytes_alu hb, fun h => ?free, fun h => ?source⟩
  case free => rw [exec_alu, State.aluResult_of_free h]; rfl
  case source => rw [exec_alu, State.aluResult_of_source h]; rfl

/-! ### The stack: STK and SSP -/

/-- The wrapped address is the integer's remainder (R8). -/
theorem State.wrap_cast (s : State) (addr : Int) : (s.wrap addr : Int) = addr % (s.size : Int) :=
  Int.toNat_of_nonneg (Int.emod_nonneg addr (Int.natCast_ne_zero.2 s.size_pos.ne'))

theorem State.wrap_natCast_of_lt {s : State} {n : Nat} (h : n < s.size) : s.wrap n = n := by
  rw [State.wrap, ← Int.natCast_emod, Int.toNat_natCast, Nat.mod_eq_of_lt h]

/-- Only ACC, SP and memory change (R131 point 3). -/
theorem State.takeStack_eq (s : State) (r : Word × Int × List Host.Cell) :
    s.takeStack r = { s with acc := r.1, sp := s.wrap r.2.1, mem := (s.applyWrites r.2.2).mem } := by
  rw [← s.takeStack_mem r, State.takeStack, State.applyWrites_eq]

/-- Settles O36: STK_FN's SP is wrapped, which an SP in [0, N) comes out of unchanged. -/
theorem stkTakesStkFnsEffect : Obligations.StkTakesStkFnsEffect := by
  intro s t b hb
  refine ⟨decodeBytes_stk hb, _, exec_stk s t, ?frame, fun h => ?free, fun h => ?source⟩
  case frame => rw [State.takeStack_eq]; rfl
  case free => simp [State.stkResult_of_free h, State.wrap_cast]
  case source => simpa [State.stkResult_of_source h] using State.wrap_natCast_of_lt

/-- Settles O38: `{o1, o2}` is the number with o1 its high byte. -/
theorem sspSetsTheStackPointer : Obligations.SspSetsTheStackPointer := by
  intro s t b hb
  refine ⟨decodeBytes_ssp hb, ?_⟩
  rw [exec_ssp, ← addr16_toNat]
  rfl

end Sys2Proof.Machine

/-! PROOFS. The decoder on the opcodes of control transfer (R92, R95) that take their target from an address or from the ring. -/

namespace Sys2Proof

section ControlOpcodes

variable {b : Nat → Byte} {t : Nibble}

theorem decodeBytes_jmp (h : b 0 = 0x5#4 ++ t) : decodeBytes b = .jmp t (addr16 (b 1) (b 2)) := by
  simp [decodeBytes, opcodeOf_of_eq_append h, traitOf_of_eq_append h]

theorem decodeBytes_jsr (h : b 0 = 0x9#4 ++ t) : decodeBytes b = .jsr t (addr16 (b 1) (b 2)) := by
  simp [decodeBytes, opcodeOf_of_eq_append h, traitOf_of_eq_append h]

theorem decodeBytes_rts (h : b 0 = 0xA#4 ++ t) : decodeBytes b = .rts t := by
  simp [decodeBytes, opcodeOf_of_eq_append h, traitOf_of_eq_append h]

end ControlOpcodes

end Sys2Proof

/-! PROOFS. JMP, JSR and RTS (R170, R180, R184): the jump to an address operand, the slot of the ring a signed ASP picks, and the
advisory after a call or a return. -/

namespace Sys2Proof.Machine

open Sys2Proof

theorem State.jumpTo_addr16 (s : State) (o1 o2 : Byte) :
    s.jumpTo (addr16 o1 o2).toNat = { s with pc := 256 * o1.toNat + o2.toNat } := by
  rw [addr16_toNat]
  rfl

/-- The slot index is ASP mod 16, ASP signed (R32). -/
theorem rasSlot_eq_iff {j : Fin 16} {asp : BitVec 32} : rasSlot asp = j ↔ (j.val : Int) = asp.toInt % 16 := by
  rw [← rasSlot_signed, Fin.ext_iff, Int.natCast_inj, eq_comm]

/-- A call writes the slot ASP picks and no other (R180). -/
theorem State.pushReturn_ras_getElem (s : State) (ret : Nat) (j : Fin 16) :
    (s.pushReturn ret).ras[j] = if (j.val : Int) = s.asp.toInt % 16 then ret else s.ras[j] := by
  have hslot : (rasSlot s.asp).val = j.val ↔ (j.val : Int) = s.asp.toInt % 16 := by rw [← Fin.ext_iff, rasSlot_eq_iff]
  simp only [State.pushReturn_ras, Fin.getElem_fin, Vector.getElem_set, hslot]

/-- A return goes to the content of the slot the counted-down ASP picks (R184). -/
theorem State.popReturn_pc_of_slot {s : State} {j : Fin 16} (hj : (j.val : Int) = s.popReturn.asp.toInt % 16) :
    s.popReturn.pc = s.ras[j] := by
  obtain rfl : rasSlot (s.asp - 1) = j := rasSlot_eq_iff.2 hj
  rfl

/-- The advisory of R252, its condition on the number ASP stands for. -/
theorem State.retire_trace_of_asp_outside {s : State} {i : Instr} (hd : s.cfg.debug = true) (hi : changesAsp i = true)
    (hout : s.asp.toInt < 0 ∨ 16 ≤ s.asp.toInt) :
    (s.retire i).trace = s.trace ++ [.trace s.pc (s.retire i).icount, .rasAdvisory s.asp.toInt] := by
  have ha : aspInRange s.asp = false := by
    rw [← Bool.not_eq_true, aspInRange_iff]
    omega
  exact State.retire_trace_of_advisory hd hi ha

/-- Settles O41: the call's slot and the advisory, the handler leaving parameters and trace. -/
theorem jsrSavesTheReturnAddress : Obligations.JsrSavesTheReturnAddress := by
  intro s t b hb
  refine ⟨decodeBytes_jsr hb, _, exec_jsr s t _, ?frame, s.pushReturn_ras_getElem _, fun hd hout => ?advisory⟩
  case frame => exact State.jumpTo_addr16 _ (b 1) (b 2)
  case advisory => exact State.retire_trace_of_asp_outside hd rfl hout

/-- Settles O42: the return's slot and the advisory, the handler leaving slots, parameters and trace. -/
theorem rtsReturnsToTheSavedAddress : Obligations.RtsReturnsToTheSavedAddress := by
  intro s t b hb
  refine ⟨decodeBytes_rts hb, _, exec_rts s t, rfl, fun _ => State.popReturn_pc_of_slot, fun hd hout => ?advisory⟩
  case advisory => exact State.retire_trace_of_asp_outside hd rfl hout

/-- Settles O39: the target is `{o1, o2}` for every trait and prior pc. -/
theorem jmpReplacesPc : Obligations.JmpReplacesPc := by
  intro s t b hb
  exact ⟨decodeBytes_jmp hb, (exec_jmp s t _).trans (congrArg Host.Outcome.next (s.jumpTo_addr16 (b 1) (b 2)))⟩

end Sys2Proof.Machine

/-! PROOFS. The decoder on the reserved primary opcodes 0xB to 0xE (R92, R95). -/

namespace Sys2Proof

section ReservedOpcodes

variable {b : Nat → Byte} {t : Nibble}

theorem decodeBytes_undefGpioB (h : b 0 = 0xB#4 ++ t) : decodeBytes b = .undefGpioB t := by
  simp [decodeBytes, opcodeOf_of_eq_append h, traitOf_of_eq_append h]

theorem decodeBytes_undefGpioC (h : b 0 = 0xC#4 ++ t) : decodeBytes b = .undefGpioC t := by
  simp [decodeBytes, opcodeOf_of_eq_append h, traitOf_of_eq_append h]

theorem decodeBytes_undefD (h : b 0 = 0xD#4 ++ t) : decodeBytes b = .undefD t := by
  simp [decodeBytes, opcodeOf_of_eq_append h, traitOf_of_eq_append h]

theorem decodeBytes_undefE (h : b 0 = 0xE#4 ++ t) : decodeBytes b = .undefE t := by
  simp [decodeBytes, opcodeOf_of_eq_append h, traitOf_of_eq_append h]

end ReservedOpcodes

end Sys2Proof

/-! PROOFS. The fatal encodings (R190, R231): what `raise Fatal(c)` leaves, that its instruction is not counted, and how the run
ends. -/

namespace Sys2Proof.Machine

open Sys2Proof

/-- A fatal halt changes `run` and `cause` and appends its Diagnostic (R231). -/
theorem State.raiseFatal_eq (s : State) (c : Cause) :
    s.raiseFatal c = { s with run := .halted, cause := c, trace := s.trace ++ [.diagnostic c] } := rfl

/-- An instruction that halts is not counted (R35, R123). -/
theorem State.retire_icount_of_halted {s : State} (hr : s.run = .halted) (i : Instr) : (s.retire i).icount = s.icount := by
  simp [State.count_icount, hr]

/-- A run that a fatal cause ends exits with a non-zero status (R254). -/
theorem State.exitStatus_runEnd_raiseFatal (s : State) {c : Cause} (hc : c.isFatal = true) :
    (s.raiseFatal c).runEnd.map RunEnd.exitStatus = some .nonzero := by
  rw [State.runEnd_of_halted (s.raiseFatal_run c), State.raiseFatal_cause]
  exact Cause.exitStatus_runEnd_eq_nonzero_iff.2 hc

/-- What the fatal encodings share: a handler that raises `c` halts the run with it, is not counted, and fails the exit. -/
theorem exec_effect_of_raiseFatal {i : Instr} {s : State} {c : Cause} (hc : c.isFatal = true)
    (h : exec i s = .next (s.raiseFatal c)) :
    ∃ u, exec i s = .next u ∧
      u = { s with run := .halted, cause := c, trace := s.trace ++ [.diagnostic c] } ∧
      (u.retire i).icount = s.icount ∧ u.runEnd.map RunEnd.exitStatus = some .nonzero :=
  ⟨_, h, s.raiseFatal_eq c, State.retire_icount_of_halted (s.raiseFatal_run c) i, s.exitStatus_runEnd_raiseFatal hc⟩

/-- Settles O50: each of the four opcodes decodes to an instruction that raises its cause, and the shared effect follows. -/
theorem reservedOpcodesAreFatal : Obligations.ReservedOpcodesAreFatal := by
  intro s t b
  refine ⟨?fatal, rfl, rfl⟩
  case fatal =>
    rintro c i (⟨hb, rfl, rfl⟩ | ⟨hb, rfl, rfl⟩ | ⟨hb, rfl, rfl⟩ | ⟨hb, rfl, rfl⟩)
    · exact ⟨decodeBytes_undefGpioB hb, exec_effect_of_raiseFatal rfl (exec_undefGpioB s t)⟩
    · exact ⟨decodeBytes_undefGpioC hb, exec_effect_of_raiseFatal rfl (exec_undefGpioC s t)⟩
    · exact ⟨decodeBytes_undefD hb, exec_effect_of_raiseFatal rfl (exec_undefD s t)⟩
    · exact ⟨decodeBytes_undefE hb, exec_effect_of_raiseFatal rfl (exec_undefE s t)⟩

end Sys2Proof.Machine

/-! PROOFS. The decoder on the special functions NOP, CKBD and the undefined ones (R97). -/

namespace Sys2Proof

section SpecialFunctions

variable {b : Nat → Byte}

theorem decodeBytes_nop (h : b 0 = 0xF3) : decodeBytes b = .nop := by
  simp [decodeBytes, decodeSpecial, h]

theorem decodeBytes_ckbd (h : b 0 = 0xF6) : decodeBytes b = .ckbd := by
  simp [decodeBytes, decodeSpecial, h]

theorem decodeBytes_undefSf7 (h : b 0 = 0xF7) : decodeBytes b = .undefSf7 := by
  simp [decodeBytes, decodeSpecial, h]

/-- A trait from 8 on is past the seven named special functions, and its low three bits are kept. -/
theorem decodeBytes_undefSf8to15 {x : BitVec 3} (h : b 0 = 0xF#4 ++ (1#1 ++ x)) : decodeBytes b = .undefSf8to15 x := by
  have hlow : lowThree (traitOf (b 0)) = x := by rw [traitOf_of_eq_append h, lowThree_highTrait]
  have htrait : (traitOf (b 0)).toNat = 8 + x.toNat := by rw [traitOf_of_eq_append h, highTrait_toNat]
  have hspecial : decodeSpecial (traitOf (b 0)) b = .undefSf8to15 x := by
    unfold decodeSpecial
    split
    case h_9 => rw [hlow]
    all_goals omega
  simpa [decodeBytes, opcodeOf_of_eq_append h] using hspecial

end SpecialFunctions

end Sys2Proof

/-! PROOFS. CKBD and the undefined special functions (R208, R209). -/

namespace Sys2Proof.Machine

open Sys2Proof

/-- Settles O49: the handler is one assignment and the advance. -/
theorem ckbdClearsKbd : Obligations.CkbdClearsKbd := by
  intro s b hb
  exact ⟨decodeBytes_ckbd hb, exec_ckbd s⟩

/-- Settles O51: both forms decode to an instruction that raises UNDEF_SF, and a fatal halt is not counted. -/
theorem undefinedSpecialFunctionsAreFatal : Obligations.UndefinedSpecialFunctionsAreFatal := by
  intro s x b
  have huncounted := State.retire_icount_of_halted (s.raiseFatal_run .undefSf)
  refine ⟨?fatal, rfl⟩
  case fatal =>
    rintro i (⟨hb, rfl⟩ | ⟨hb, rfl⟩)
    · exact ⟨decodeBytes_undefSf7 hb, _, exec_undefSf7 s, s.raiseFatal_eq _, huncounted _⟩
    · exact ⟨decodeBytes_undefSf8to15 hb, _, exec_undefSf8to15 s x, s.raiseFatal_eq _, huncounted _⟩

end Sys2Proof.Machine

/-! PROOFS. NOP between its gap phase and its retire step (R205): a gap phase that goes on to the fetch is a poll, after a look at
the console in single-step mode, and moves neither pc nor ICOUNT. -/

namespace Sys2Proof.Machine

open Sys2Proof

/-! ### The gap phase that goes on -/

/-- Everything a gap phase that goes on to the fetch can be (R120): a poll, after the console's CONTINUE in single-step mode. -/
theorem State.eq_pollKeyboard_of_gapPhase_ready {s u : State} (h : s.gapPhase = .ready u) :
    u = s.pollKeyboard ∨ u = (s.afterLook.emit (.stepWait .continue)).pollKeyboard := by
  obtain ⟨-, hg⟩ | ⟨-, -, hg⟩ | ⟨-, -, hg⟩ | ⟨-, -, hg⟩ := s.gapPhase_cases
  · exact .inl (Gap.ready.inj (h.symm.trans hg))
  · cases h.symm.trans hg
  · cases h.symm.trans hg
  · exact .inr (Gap.ready.inj (h.symm.trans hg))

/-- What the gap phase leaves for the instruction: where it runs, that it runs, and the count (R120). -/
theorem State.gapPhase_ready_keeps {s u : State} (h : s.gapPhase = .ready u) :
    u.pc = s.pc ∧ u.size = s.size ∧ u.run = s.run ∧ u.icount = s.icount := by
  obtain rfl | rfl := State.eq_pollKeyboard_of_gapPhase_ready h <;> simp

/-- A byte the poll returns is ORed into KBD (R245). -/
theorem State.pollKeyboard_kbd_of_byte {s : State} {byte : Byte} (hen : s.cfg.kbdEn = true)
    (hp : s.pollReturns = some byte) : s.pollKeyboard.kbd = s.kbd ||| byte := by
  simp [State.pollKeyboard, hen, hp, State.orKbd]

/-- The same through the whole gap phase: the console's answer touches neither KBD nor the channel. -/
theorem State.gapPhase_ready_kbd_of_byte {s u : State} {byte : Byte} (h : s.gapPhase = .ready u)
    (hen : s.cfg.kbdEn = true) (hp : s.pollReturns = some byte) : u.kbd = s.kbd ||| byte := by
  obtain rfl | rfl := State.eq_pollKeyboard_of_gapPhase_ready h
  · exact State.pollKeyboard_kbd_of_byte hen hp
  · exact State.pollKeyboard_kbd_of_byte (s := s.afterLook.emit (.stepWait .continue)) hen hp

/-! ### The whole step -/

/-- An instruction that leaves the machine running is counted (R35, R123). -/
theorem State.retire_icount_of_running {s : State} (hr : s.run = .running) (i : Instr) :
    (s.retire i).icount = s.icount + 1 := by
  simp [State.count_icount, hr]

/-- A machine whose pc is at a NOP runs it: the advance by one, retired. -/
theorem State.runInstr_of_nop {u : State} (hbyte : u.readByte u.pc = 0xF3) :
    u.runInstr = .next ((u.advance 1).retire .nop) := by
  have hfetch : u.fetch = .nop := decodeBytes_nop hbyte
  exact State.runInstr_next_iff.2 ⟨u.advance 1, by rw [hfetch, exec_nop], by rw [hfetch]⟩

/-- Settles O46: the gap phase hands over pc and ICOUNT as they were and KBD polled, and NOP and its retire step keep KBD. -/
theorem nopOnlyAdvances : Obligations.NopOnlyAdvances := by
  intro s b hb
  refine ⟨decodeBytes_nop hb, exec_nop s, fun hr => State.retire_icount_of_running (s := s.advance 1) hr .nop, ?step⟩
  case step =>
    intro u hr hg hbyte
    obtain ⟨hpc, hsize, hrun, hcount⟩ := State.gapPhase_ready_keeps hg
    have hstep : step s = .next ((u.advance 1).retire .nop) :=
      (step_of_ready hr hg).trans (State.runInstr_of_nop hbyte)
    refine ⟨_, hstep, rfl, ?pc, ?icount, fun hen byte hp => ?kbd⟩
    case pc => simp [hpc, hsize]
    case icount => rw [State.retire_icount_of_running (s := u.advance 1) (hrun.trans hr), State.advance_icount, hcount]
    case kbd => simpa using State.gapPhase_ready_kbd_of_byte hg hen hp

end Sys2Proof.Machine

/-! PROOFS. Instruction-fetch coherence (R74, R75): a fetch reads nine bytes at most, and after an ST8 the first eight of them are
the registers and the ninth is the byte that stood there. -/

namespace Sys2Proof.Machine

open Sys2Proof

/-- Addresses that agree modulo N name one byte (R61). -/
theorem State.readByte_eq_of_modEq (s : State) {a b : Nat} (h : a ≡ b [MOD s.size]) : s.readByte a = s.readByte b := by
  rw [State.readByte, State.readByte, h]

/-- Within one turn of the address space, a byte past the end of a run of stored bytes stays. -/
theorem State.readByte_storeBytes_past (s : State) (a : Nat) (vs : List Byte) {k : Nat} (hk : vs.length ≤ k)
    (hsize : k < s.size) : (s.storeBytes a vs).readByte (a + k) = s.readByte (a + k) := by
  refine s.readByte_storeBytes_other a vs (a + k) fun i hi heq => ?_
  have hki : k = i := (Nat.ModEq.add_left_cancel' a heq).eq_of_lt_of_lt hsize (by omega)
  omega

/-- The first nine bytes at pc are all a fetch reads (R91). -/
theorem State.fetch_eq_decodeBytes {v : State} {f : Nat → Byte} (h : ∀ k, k < 9 → v.readByte (v.pc + k) = f k) :
    v.fetch = decodeBytes f := by
  have hwidth : widthOf (f 0) ≤ 9 := by
    have hw := widthOf_cases (f 0)
    omega
  exact decodeBytes_congr fun k hk => h k (by omega)

/-- The nine bytes after an ST8's instruction byte, once it has stored (R204). -/
theorem State.readByte_storeBytes_registers (s : State) {k : Nat} (hk : k < 9) :
    (s.storeBytes (s.pc + 1) s.x.toList).readByte (s.pc + 1 + k) =
      if h : k < 8 then s.x[k] else s.readByte (s.pc + 1 + k) := by
  have hlen : s.x.toList.length = 8 := s.x.length_toList
  have hsize := s.size_ge
  split
  · next h8 =>
    exact (s.readByte_storeBytes (s.pc + 1) s.x.toList (by omega) k (by omega)).trans (Vector.getElem_toList _)
  · exact s.readByte_storeBytes_past (s.pc + 1) s.x.toList (by omega) (by omega)

/-- Settles O22: the nine bytes the fetch reads are those the store left, at addresses that agree modulo N. -/
theorem storedBytesAreFetchedNext : Obligations.StoredBytesAreFetchedNext := by
  intro d s t v h hmem hcfg hpc
  obtain rfl : _ = t := by simpa using h
  refine State.fetch_eq_decodeBytes fun k hk => ?_
  let stored := s.storeBytes (s.pc + 1) s.x.toList
  have haddr : v.pc + k ≡ s.pc + 1 + k [MOD stored.size] := by
    rw [hpc, s.storeBytes_size]
    exact (Nat.mod_modEq _ _).add_right k
  calc v.readByte (v.pc + k)
      = stored.readByte (v.pc + k) := State.readByte_congr hmem hcfg _
    _ = stored.readByte (s.pc + 1 + k) := stored.readByte_eq_of_modEq haddr
    _ = _ := s.readByte_storeBytes_registers hk

end Sys2Proof.Machine


/-! PROOFS. What a fatal cause does and what the host sees of it (R231, R247, R254). -/

namespace Sys2Proof.Machine

open Sys2Proof

/-- The output `halted` reads `run` (R247). -/
@[simp] theorem State.halted_iff {s : State} : s.halted = true ↔ s.run = .halted := decide_eq_true_iff

/-- The output `halt_cause` reads `cause` (R247). -/
@[simp] theorem State.haltCause_eq (s : State) : s.haltCause = s.cause := rfl

/-- Settles O52: both outputs read what the fatal halt wrote, and only the exit status needs the cause to be fatal. -/
theorem raiseFatalHaltsAndReports : Obligations.RaiseFatalHaltsAndReports := by
  intro s c hc
  have hhalted : (s.raiseFatal c).halted = true := State.halted_iff.2 (s.raiseFatal_run c)
  have hcause : (s.raiseFatal c).haltCause = c := (State.haltCause_eq _).trans (s.raiseFatal_cause c)
  exact ⟨s.raiseFatal_eq c, hhalted, hcause, s.exitStatus_runEnd_raiseFatal hc⟩

end Sys2Proof.Machine


/-! PROOFS. The configuration check at reset (R271): it comes before the image and the filler are looked at. -/

namespace Sys2Proof.Machine

open Sys2Proof

/-- Settles O16: the one branch of `boot` that loads has all four options given, and every other one is the error. -/
theorem bootNeedsEveryOption : Obligations.BootNeedsEveryOption := by
  intro r hunset
  unfold boot
  split
  · next hd hst hsc hk =>
    have hgiven : ¬ (r.debug = none ∨ r.stepMode = none ∨ r.screenEn = none ∨ r.kbdEn = none) := by
      simp [hd, hst, hsc, hk]
    exact absurd hunset hgiven
  · rfl

end Sys2Proof.Machine


/-! PROOFS. Who writes what (R23 to R36): one frame per register, the instructions outside its class leaving it; and every
handler answers a next state. -/

namespace Sys2Proof.Machine

open Sys2Proof

/-- Every handler answers a next state. -/
theorem exec_answers_next (i : Instr) (s : State) : ∃ t, exec i s = .next t := by
  cases i <;> exact ⟨_, rfl⟩

section Frames

variable {i : Instr} {s t : State}

/-! ### Registers and flags -/

theorem exec_keeps_x (h : exec i s = .next t) (hi : mayWriteRegs i = false) : t.x = s.x := by
  cases i
  case sacc | lsr | movb | ld8 | rkbd => cases hi
  all_goals
    obtain rfl : _ = t := by simpa using h
    simp

theorem exec_keeps_aluInputs (h : exec i s = .next t) (hi : writesAluInput i = false) : t.a = s.a ∧ t.b = s.b := by
  cases i
  case ldal => cases hi
  all_goals
    obtain rfl : _ = t := by simpa using h
    simp

theorem exec_keeps_acc (h : exec i s = .next t) (hi : writesAcc i = false) : t.acc = s.acc := by
  cases i
  case alu | stk => cases hi
  all_goals
    obtain rfl : _ = t := by simpa using h
    simp

theorem exec_keeps_flags (h : exec i s = .next t) (hi : writesFlags i = false) : t.flags = s.flags := by
  cases i
  case alu => cases hi
  all_goals
    obtain rfl : _ = t := by simpa using h
    simp

/-! ### Control state -/

theorem exec_keeps_sp (h : exec i s = .next t) (hi : writesSp i = false) : t.sp = s.sp := by
  cases i
  case stk | ssp => cases hi
  all_goals
    obtain rfl : _ = t := by simpa using h
    simp

theorem exec_keeps_ras (h : exec i s = .next t) (hi : writesRas i = false) : t.ras = s.ras := by
  cases i
  case jsr => cases hi
  all_goals
    obtain rfl : _ = t := by simpa using h
    simp

theorem exec_keeps_asp (h : exec i s = .next t) (hi : changesAsp i = false) : t.asp = s.asp := by
  cases i
  case jsr | rts => cases hi
  all_goals
    obtain rfl : _ = t := by simpa using h
    simp

theorem exec_keeps_kbd (h : exec i s = .next t) (hi : writesKbd i = false) : t.kbd = s.kbd := by
  cases i
  case ckbd => cases hi
  all_goals
    obtain rfl : _ = t := by simpa using h
    simp

theorem exec_keeps_run_cause (h : exec i s = .next t) (hi : haltingCause i = none) : t.run = s.run ∧ t.cause = s.cause := by
  cases i
  case hlt | undefGpioB | undefGpioC | undefD | undefE | undefSf7 | undefSf8to15 => cases hi
  all_goals
    obtain rfl : _ = t := by simpa using h
    simp

/-- A halting instruction halts with its cause, and pc stays p (R33, R34, D26). -/
theorem exec_halts {c : Cause} (h : exec i s = .next t) (hi : haltingCause i = some c) :
    t.run = .halted ∧ t.cause = c ∧ t.pc = s.pc := by
  cases i
  case hlt | undefGpioB | undefGpioC | undefD | undefE | undefSf7 | undefSf8to15 =>
    obtain rfl : _ = t := by simpa using h
    simpa [haltingCause] using hi
  all_goals cases hi

/-- A sequential instruction goes on to the one behind it (R29, R95). -/
theorem exec_advances_pc (h : exec i s = .next t) (hjump : overwritesPc i = false) (hi : haltingCause i = none) :
    t.pc = (s.pc + i.width) % s.size := by
  cases i
  case jmp | jcc | jsr | rts => cases hjump
  case hlt | undefGpioB | undefGpioC | undefD | undefE | undefSf7 | undefSf8to15 => cases hi
  all_goals
    obtain rfl : _ = t := by simpa using h
    simp [Instr.width, State.size]

end Frames

/-- Settles O53, from the four frames of the registers. -/
theorem onlyNamedInstructionsWriteRegisters : Obligations.OnlyNamedInstructionsWriteRegisters := by
  intro i s t h
  exact ⟨exec_keeps_x h, exec_keeps_aluInputs h, exec_keeps_acc h, exec_keeps_flags h⟩

/-- Settles O54, from the frames of the control state and what a halting instruction does. -/
theorem onlyNamedInstructionsWriteControlState : Obligations.OnlyNamedInstructionsWriteControlState := by
  intro i s t h
  refine ⟨exec_keeps_sp h, exec_keeps_ras h, exec_keeps_asp h, exec_keeps_kbd h, exec_keeps_run_cause h, fun c hc => ?halts⟩
  case halts =>
    obtain ⟨hrun, hcause, -⟩ := exec_halts h hc
    exact ⟨hrun, hcause⟩

/-- Settles O58: the advance of a sequential instruction, and the pc a halt leaves. -/
theorem pcAdvancesByTheWidth : Obligations.PcAdvancesByTheWidth := by
  intro i s t h
  refine ⟨exec_advances_pc h, fun c hc => ?halts⟩
  case halts =>
    obtain ⟨-, -, hpc⟩ := exec_halts h hc
    exact hpc

end Sys2Proof.Machine


/-! PROOFS. The invariant of every run (R28, R30, R31, R34, R99): each handler keeps each clause, and the gap phase and the retire
step change nothing the invariant speaks of. -/

namespace Sys2Proof.Machine

open Sys2Proof

/-! ### The gap phase -/

/-- Everything a gap phase that ends the step can be (R248): a look without an answer, or the ABORT. -/
theorem State.eq_of_gapPhase_done {s u : State} (h : s.gapPhase = .done u) :
    u = s.afterLook ∨ u = (s.afterLook.emit (.stepWait .abort)).halt .abort := by
  obtain ⟨-, hg⟩ | ⟨-, -, hg⟩ | ⟨-, -, hg⟩ | ⟨-, -, hg⟩ := s.gapPhase_cases
  · cases h.symm.trans hg
  · exact .inl (Gap.done.inj (h.symm.trans hg))
  · exact .inr (Gap.done.inj (h.symm.trans hg))
  · cases h.symm.trans hg

/-! ### The clauses of the invariant, handler by handler -/

section Handlers

variable {i : Instr} {s t : State}

theorem exec_keeps_memCanonical (h : exec i s = .next t)
    (hmem : Memory.wf (Memory.unlisted s.cfg) s.size s.mem = true) :
    Memory.wf (Memory.unlisted t.cfg) t.size t.mem = true := by
  obtain ⟨-, hcfg, -⟩ := exec_keeps_icount_cfg_env h
  rw [State.size, hcfg]
  cases i
  case sacc | lsr | movb | stk =>
    obtain rfl : _ = t := by simpa using h
    simpa [State.size] using State.memWf_applyWrites _ hmem
  case st8 =>
    obtain rfl : _ = t := by simpa using h
    exact State.memWf_storeBytes _ _ hmem
  all_goals
    rw [exec_keeps_mem h rfl]
    exact hmem

/-- Every way to set pc stays in [0, N): the advance and the relative target are reduced, an address operand has 16 bits, and the
ring holds addresses in range (R28). -/
theorem exec_pc_lt_size (h : exec i s = .next t) (hpc : s.pc < s.size) (hras : ∀ j : Fin 16, s.ras[j] < s.size) :
    t.pc < s.size := by
  cases hc : haltingCause i with
  | some c =>
    obtain ⟨-, -, hkeep⟩ := exec_halts h hc
    rwa [hkeep]
  | none =>
    cases hjump : overwritesPc i with
    | false =>
      rw [exec_advances_pc h hjump hc]
      exact s.mod_size_lt _
    | true =>
      cases i
      case jmp f addr | jsr f addr =>
        obtain rfl : _ = t := by simpa using h
        exact s.addr_lt_size addr
      case jcc c off =>
        obtain rfl : _ = t := by simpa using h
        rw [State.jumpTo_pc]
        split
        · exact s.wrap_lt _
        · exact s.mod_size_lt _
      case rts =>
        obtain rfl : _ = t := by simpa using h
        exact hras (rasSlot (s.asp - 1))
      all_goals cases hjump

/-- STK_FN's SP is wrapped and SSP's is a 16-bit address (R30). -/
theorem exec_sp_lt_size (h : exec i s = .next t) (hsp : s.sp < s.size) : t.sp < s.size := by
  cases i
  case stk f =>
    obtain rfl : _ = t := by simpa using h
    simpa using s.wrap_lt _
  case ssp f addr =>
    obtain rfl : _ = t := by simpa using h
    exact s.addr_lt_size addr
  all_goals
    rw [exec_keeps_sp h rfl]
    exact hsp

/-- A return address is reduced modulo N (R31, R180). -/
theorem exec_ras_lt_size (h : exec i s = .next t) (hras : ∀ j : Fin 16, s.ras[j] < s.size) (j : Fin 16) :
    t.ras[j] < s.size := by
  cases i
  case jsr f addr =>
    obtain rfl : _ = t := by simpa using h
    rw [State.jumpTo_ras, State.pushReturn_ras_getElem]
    split
    · exact s.mod_size_lt _
    · exact hras j
  all_goals
    rw [exec_keeps_ras h rfl]
    exact hras j

end Handlers

/-- No instruction halts with cause NONE (R34). -/
theorem haltingCause_ne_none (i : Instr) : haltingCause i ≠ some .none := by
  cases i <;> simp [haltingCause]

theorem exec_keeps_causeNoneIffRunning {i : Instr} {s t : State} (h : exec i s = .next t)
    (hs : s.cause = .none ↔ s.run = .running) : t.cause = .none ↔ t.run = .running := by
  cases hc : haltingCause i with
  | none =>
    obtain ⟨hrun, hcause⟩ := exec_keeps_run_cause h hc
    rwa [hrun, hcause]
  | some c =>
    obtain ⟨hrun, hcause, -⟩ := exec_halts h hc
    have hne : c ≠ .none := fun heq => haltingCause_ne_none i (heq ▸ hc)
    simp [hrun, hcause, hne]

/-! ### The invariant as a whole -/

/-- The invariant speaks of no register, counter, event or draw. -/
theorem State.Inv.congr {s t : State} (h : s.Inv) (hmem : t.mem = s.mem) (hcfg : t.cfg = s.cfg) (hpc : t.pc = s.pc)
    (hsp : t.sp = s.sp) (hras : t.ras = s.ras) (hrun : t.run = s.run) (hcause : t.cause = s.cause) : t.Inv := by
  have hsize : t.size = s.size := by rw [State.size, hcfg]; rfl
  exact {
    memCanonical := by rw [hcfg, hsize, hmem]; exact h.memCanonical
    pcInRange := by rw [hpc, hsize]; exact h.pcInRange
    spInRange := by rw [hsp, hsize]; exact h.spInRange
    rasInRange := by rw [hras, hsize]; exact h.rasInRange
    fillIsFatal := by rw [hcfg]; exact h.fillIsFatal
    causeNoneIffRunning := by rw [hcause, hrun]; exact h.causeNoneIffRunning }

theorem State.Inv.halt {s : State} {c : Cause} (h : s.Inv) (hc : c ≠ .none) : (s.halt c).Inv :=
  { h with causeNoneIffRunning := by simp [hc] }

theorem State.Inv.afterLook {s : State} (h : s.Inv) : s.afterLook.Inv := h.congr rfl rfl rfl rfl rfl rfl rfl

theorem State.Inv.emit {s : State} (h : s.Inv) (e : Event) : (s.emit e).Inv := h.congr rfl rfl rfl rfl rfl rfl rfl

theorem State.Inv.pollKeyboard {s : State} (h : s.Inv) : s.pollKeyboard.Inv := by
  apply h.congr <;> simp

theorem State.Inv.retire {s : State} (h : s.Inv) (i : Instr) : (s.retire i).Inv := by
  apply h.congr <;> simp

theorem State.Inv.exec {i : Instr} {s t : State} (h : s.Inv) (hexec : exec i s = .next t) : t.Inv := by
  obtain ⟨-, hcfg, -⟩ := exec_keeps_icount_cfg_env hexec
  have hsize : t.size = s.size := by rw [State.size, hcfg]; rfl
  exact {
    memCanonical := exec_keeps_memCanonical hexec h.memCanonical
    pcInRange := hsize ▸ exec_pc_lt_size hexec h.pcInRange h.rasInRange
    spInRange := hsize ▸ exec_sp_lt_size hexec h.spInRange
    rasInRange := hsize ▸ exec_ras_lt_size hexec h.rasInRange
    fillIsFatal := hcfg ▸ h.fillIsFatal
    causeNoneIffRunning := exec_keeps_causeNoneIffRunning hexec h.causeNoneIffRunning }

theorem State.Inv.gapPhase_done {s u : State} (h : s.Inv) (hg : s.gapPhase = .done u) : u.Inv := by
  obtain rfl | rfl := State.eq_of_gapPhase_done hg
  · exact h.afterLook
  · exact (h.afterLook.emit _).halt (by decide)

theorem State.Inv.gapPhase_ready {s u : State} (h : s.Inv) (hg : s.gapPhase = .ready u) : u.Inv := by
  obtain rfl | rfl := State.eq_pollKeyboard_of_gapPhase_ready hg
  · exact h.pollKeyboard
  · exact (h.afterLook.emit _).pollKeyboard

/-- Settles O20: the gap phase, the handler and the retire step each keep the invariant. -/
theorem stepKeepsInvariant : Obligations.StepKeepsInvariant := by
  intro s t h hstep
  obtain ⟨-, hdone | ⟨u, v, hready, hexec, rfl⟩⟩ := step_next_iff.1 hstep
  · exact h.gapPhase_done hdone
  · exact ((h.gapPhase_ready hready).exec hexec).retire _

end Sys2Proof.Machine


/-! PROOFS. What every step keeps or only adds to (R10, R27, R35, R62): the frames of the gap phase, of the handlers and of the
retire step, joined by `step_next_iff`. -/

namespace Sys2Proof.Machine

open Sys2Proof

section GapPhase

variable {s u : State}

theorem State.gapPhase_done_keeps (h : s.gapPhase = .done u) :
    u.cfg = s.cfg ∧ u.kbd = s.kbd ∧ u.icount = s.icount ∧ u.flags = s.flags ∧ u.acc = s.acc := by
  obtain rfl | rfl := State.eq_of_gapPhase_done h <;> simp

theorem State.gapPhase_ready_keeps_cfg (h : s.gapPhase = .ready u) : u.cfg = s.cfg := by
  obtain rfl | rfl := State.eq_pollKeyboard_of_gapPhase_ready h <;> simp

theorem State.gapPhase_ready_keeps_flags_acc (h : s.gapPhase = .ready u) : u.flags = s.flags ∧ u.acc = s.acc := by
  obtain rfl | rfl := State.eq_pollKeyboard_of_gapPhase_ready h <;> simp

end GapPhase

/-! ### A step exists -/

/-- Settles O3: the gap phase always ends, and every handler answers a next state. -/
theorem stepExistsExactlyWhileRunning : Obligations.StepExistsExactlyWhileRunning := by
  intro s
  constructor
  case mp =>
    rintro ⟨t, hstep⟩
    exact (step_next_iff.1 hstep).1
  case mpr =>
    intro hr
    cases hg : s.gapPhase with
    | done u => exact ⟨u, step_next_iff.2 ⟨hr, .inl hg⟩⟩
    | ready u =>
      obtain ⟨v, hexec⟩ := exec_answers_next u.fetch u
      exact ⟨_, step_next_iff.2 ⟨hr, .inr ⟨u, v, hg, hexec, rfl⟩⟩⟩

/-! ### The parameters -/

theorem step_keeps_cfg {s t : State} (hstep : step s = .next t) : t.cfg = s.cfg := by
  obtain ⟨-, hdone | ⟨u, v, hready, hexec, rfl⟩⟩ := step_next_iff.1 hstep
  · obtain ⟨hcfg, -⟩ := State.gapPhase_done_keeps hdone
    exact hcfg
  · obtain ⟨-, hcfg, -⟩ := exec_keeps_icount_cfg_env hexec
    rw [State.retire_cfg, hcfg, State.gapPhase_ready_keeps_cfg hready]

/-- Settles O10: no part of a step writes the parameters, and N is one of them. -/
theorem stepKeepsParameters : Obligations.StepKeepsParameters := by
  intro s t hstep
  have hcfg := step_keeps_cfg hstep
  exact ⟨hcfg, congrArg Config.Params.memSize hcfg⟩

/-! ### The event trace -/

theorem State.trace_isPrefix_pollKeyboard (s : State) : s.trace <+: s.pollKeyboard.trace := by
  obtain ⟨-, h⟩ | ⟨-, h⟩ := s.pollKeyboard_cases <;> simp [h]

theorem State.trace_isPrefix_gapPhase_done {s u : State} (h : s.gapPhase = .done u) : s.trace <+: u.trace := by
  obtain rfl | rfl := State.eq_of_gapPhase_done h <;> simp

theorem State.trace_isPrefix_gapPhase_ready {s u : State} (h : s.gapPhase = .ready u) : s.trace <+: u.trace := by
  obtain rfl | rfl := State.eq_pollKeyboard_of_gapPhase_ready h
  · exact s.trace_isPrefix_pollKeyboard
  · exact .trans (by simp) (s.afterLook.emit (.stepWait .continue)).trace_isPrefix_pollKeyboard

/-- WSCR and the fatal encodings append one event at most, and no other handler any (R206, R231). -/
theorem exec_trace_isPrefix {i : Instr} {s t : State} (h : exec i s = .next t) : s.trace <+: t.trace := by
  cases i
  case wscr o1 o2 =>
    obtain rfl : _ = t := by simpa using h
    rw [State.advance_trace, State.writeScreen]
    split <;> simp
  case undefGpioB | undefGpioC | undefD | undefE | undefSf7 | undefSf8to15 =>
    obtain rfl : _ = t := by simpa using h
    simp
  all_goals
    rw [exec_keeps_trace h rfl]

theorem State.trace_isPrefix_retire (s : State) (i : Instr) : s.trace <+: (s.retire i).trace := by
  rw [State.retire_trace, List.append_assoc]
  exact ⟨_, rfl⟩

/-- Settles O9: the parts of a step each only append. -/
theorem stepOnlyAppendsToTrace : Obligations.StepOnlyAppendsToTrace := by
  intro s t hstep
  have hgrows : s.trace <+: t.trace := by
    obtain ⟨-, hdone | ⟨u, v, hready, hexec, rfl⟩⟩ := step_next_iff.1 hstep
    · exact State.trace_isPrefix_gapPhase_done hdone
    · exact ((State.trace_isPrefix_gapPhase_ready hready).trans (exec_trace_isPrefix hexec)).trans (v.trace_isPrefix_retire _)
  obtain ⟨new, hnew⟩ := hgrows
  exact ⟨new, hnew.symm⟩

/-! ### ICOUNT -/

/-- Settles O11: the gap phase and the handler leave ICOUNT to the retire step, which counts a running machine's. -/
theorem icountCountsCompletedInstructions : Obligations.IcountCountsCompletedInstructions := by
  intro s t hstep
  obtain ⟨-, hdone | ⟨u, v, hready, hexec, rfl⟩⟩ := step_next_iff.1 hstep
  · refine ⟨fun u hready => ?_, fun _ _ => ?_⟩
    · cases hdone.symm.trans hready
    · obtain ⟨-, -, hcount, -⟩ := State.gapPhase_done_keeps hdone
      exact hcount
  · refine ⟨fun _ _ => ?_, fun u hdone => ?_⟩
    · obtain ⟨-, -, -, hgap⟩ := State.gapPhase_ready_keeps hready
      obtain ⟨hexecCount, -⟩ := exec_keeps_icount_cfg_env hexec
      rw [State.retire_run, State.retire_icount, State.count_icount, hexecCount, hgap]
      split <;> simp
    · cases hdone.symm.trans hready

/-! ### KBD -/

/-- A poll clears no bit of KBD: it ORs (R245). -/
theorem State.kbd_and_pollKeyboard_kbd (s : State) : s.kbd &&& s.pollKeyboard.kbd = s.kbd := by
  obtain ⟨-, h⟩ | ⟨-, h⟩ := s.pollKeyboard_cases
  · simp [h]
  · rw [h]
    cases s.pollReturns with
    | none => simp [State.orKbd]
    | some byte =>
      show s.kbd &&& (s.kbd ||| byte) = s.kbd
      ext k hk
      simp +contextual

theorem State.gapPhase_ready_keeps_kbd_bits {s u : State} (h : s.gapPhase = .ready u) : s.kbd &&& u.kbd = s.kbd := by
  obtain rfl | rfl := State.eq_pollKeyboard_of_gapPhase_ready h
  · exact s.kbd_and_pollKeyboard_kbd
  · exact (s.afterLook.emit (.stepWait .continue)).kbd_and_pollKeyboard_kbd

theorem State.gapPhase_ready_keeps_kbd_of_disabled {s u : State} (h : s.gapPhase = .ready u) (hen : s.cfg.kbdEn = false) :
    u.kbd = s.kbd := by
  obtain rfl | rfl := State.eq_pollKeyboard_of_gapPhase_ready h <;> simp [State.pollKeyboard, hen]

theorem writesKbd_iff {i : Instr} : writesKbd i = true ↔ i = .ckbd := by
  cases i <;> simp [writesKbd]

/-- Settles O7: without KBD_EN there is no poll, and CKBD writes the 0 that stood there. -/
theorem kbdStaysZeroWhileDisabled : Obligations.KbdStaysZeroWhileDisabled := by
  intro s t hstep hen hzero
  obtain ⟨-, hdone | ⟨u, v, hready, hexec, rfl⟩⟩ := step_next_iff.1 hstep
  · obtain ⟨-, hkbd, -⟩ := State.gapPhase_done_keeps hdone
    rw [hkbd, hzero]
  · rw [State.retire_kbd]
    by_cases hc : u.fetch = .ckbd
    · rw [hc, exec_ckbd] at hexec
      obtain rfl := Host.Outcome.next.inj hexec
      rfl
    · have hnot : writesKbd u.fetch = false := by simpa [← writesKbd_iff] using hc
      rw [exec_keeps_kbd hexec hnot, State.gapPhase_ready_keeps_kbd_of_disabled hready hen, hzero]

/-- Settles O8: the poll ORs, and no handler but CKBD's writes KBD. -/
theorem kbdBitsLastUntilCkbd : Obligations.KbdBitsLastUntilCkbd := by
  intro s t hstep hfetch
  obtain ⟨-, hdone | ⟨u, v, hready, hexec, rfl⟩⟩ := step_next_iff.1 hstep
  · obtain ⟨-, hkbd, -⟩ := State.gapPhase_done_keeps hdone
    rw [hkbd, BitVec.and_self]
  · have hnot : writesKbd u.fetch = false := by simpa [← writesKbd_iff] using hfetch u hready
    rw [State.retire_kbd, exec_keeps_kbd hexec hnot]
    exact State.gapPhase_ready_keeps_kbd_bits hready

/-! ### FLAGS and ACC under the SOURCE binding -/

/-- Under the SOURCE binding ALU_FN and STK_FN give back what they were given (R131 point 4). -/
theorem exec_keeps_flags_acc_of_source {i : Instr} {s t : State} (hsource : s.cfg.openSlots = .source)
    (h : exec i s = .next t) : t.flags = s.flags ∧ t.acc = s.acc := by
  cases i
  case alu f =>
    obtain rfl : _ = t := by simpa using h
    simp [State.aluResult_of_source hsource]
  case stk f =>
    obtain rfl : _ = t := by simpa using h
    simp [State.stkResult_of_source hsource]
  all_goals exact ⟨exec_keeps_flags h rfl, exec_keeps_acc h rfl⟩

/-- Settles O14: only the handler could write FLAGS or ACC, and under the SOURCE binding it does not. -/
theorem sourceBindingKeepsFlagsAndAcc : Obligations.SourceBindingKeepsFlagsAndAcc := by
  intro s t hsource hstep
  obtain ⟨-, hdone | ⟨u, v, hready, hexec, rfl⟩⟩ := step_next_iff.1 hstep
  · obtain ⟨-, -, -, hflags, hacc⟩ := State.gapPhase_done_keeps hdone
    exact ⟨hflags, hacc⟩
  · obtain ⟨hflags, hacc⟩ := State.gapPhase_ready_keeps_flags_acc hready
    have hcfg := State.gapPhase_ready_keeps_cfg hready
    obtain ⟨hflags', hacc'⟩ := exec_keeps_flags_acc_of_source (by rw [hcfg, hsource]) hexec
    simp [hflags', hacc', hflags, hacc]

end Sys2Proof.Machine


/-! PROOFS. Decoding and encoding are inverse to each other (R92, R95, R97): what the decoder reads from an encoding, and what the
encoder gives for a decoding. -/

namespace Sys2Proof

/-! ### The decoder on the remaining rows -/

section RemainingRows

variable {b : Nat → Byte} {t : Nibble}

theorem decodeBytes_ldal (h : b 0 = 0x0#4 ++ t) : decodeBytes b = .ldal (aluInputOf t) (lowThree t) := by
  simp [decodeBytes, opcodeOf_of_eq_append h, traitOf_of_eq_append h]

theorem decodeBytes_jcc (h : b 0 = 0x6#4 ++ t) : decodeBytes b = .jcc t (b 1) := by
  simp [decodeBytes, opcodeOf_of_eq_append h, traitOf_of_eq_append h]

theorem decodeBytes_hlt (h : b 0 = 0xF0) : decodeBytes b = .hlt := by
  simp [decodeBytes, decodeSpecial, h]

theorem decodeBytes_ld8 (h : b 0 = 0xF1) : decodeBytes b = .ld8 (octetOf b) := by
  simp [decodeBytes, decodeSpecial, h]

theorem decodeBytes_st8 (h : b 0 = 0xF2) : decodeBytes b = .st8 (octetOf b) := by
  simp [decodeBytes, decodeSpecial, h]

theorem decodeBytes_wscr (h : b 0 = 0xF4) : decodeBytes b = .wscr (b 1) (b 2) := by
  simp [decodeBytes, decodeSpecial, h]

theorem decodeBytes_rkbd (h : b 0 = 0xF5) : decodeBytes b = .rkbd (b 1) := by
  simp [decodeBytes, decodeSpecial, h]

end RemainingRows

/-! ### Lists of bytes as the decoder sees them -/

/-- A list of bytes by place; past its end the value does not matter (R91). -/
def byteAt (l : List Byte) (k : Nat) : Byte := l.getD k 0

theorem byteAt_cons_succ (ib : Byte) (l : List Byte) (k : Nat) : byteAt (ib :: l) (k + 1) = byteAt l k := rfl

theorem octetOf_getElem (b : Nat → Byte) {k : Nat} (hk : k < 8) : (octetOf b)[k] = b (k + 1) := by
  interval_cases k <;> rfl

/-- The eight bytes behind an instruction byte are the octet (R92, FB8). -/
theorem octetOf_byteAt_cons_append (ib : Byte) (d : Octet) (rest : List Byte) :
    octetOf (byteAt (ib :: (d.toList ++ rest))) = d := by
  ext k hk : 1
  rw [octetOf_getElem _ hk, byteAt_cons_succ, byteAt, List.getD_append _ _ _ _ (by simpa using hk),
    List.getD_eq_getElem _ _ (by simpa using hk), Vector.getElem_toList]

/-- All that a decoding can be: there is an instruction byte, the width it says is there, and what is behind it is left. -/
theorem decode_eq_ok_iff {l rest : List Byte} {i : Instr} :
    decode l = .ok (i, rest) ↔
      l ≠ [] ∧ i.width ≤ l.length ∧ decodeBytes (byteAt l) = i ∧ l.drop i.width = rest := by
  cases l with
  | nil => simp [decode]
  | cons ib tail =>
    have hwidth : (decodeBytes (byteAt (ib :: tail))).width = widthOf ib := decodeBytes_width _
    constructor
    · intro h
      rw [decode] at h
      split at h
      · cases h
      · next hlong =>
        obtain ⟨rfl, rfl⟩ : decodeBytes (byteAt (ib :: tail)) = i ∧ (ib :: tail).drop (widthOf ib) = rest :=
          Prod.mk.inj (Except.ok.inj h)
        exact ⟨by simp, by simpa [hwidth] using hlong, rfl, by rw [hwidth]⟩
    · rintro ⟨-, hlong, rfl, rfl⟩
      rw [hwidth] at hlong ⊢
      exact decode_cons_of_widthOf_le hlong

/-! ### Reading an encoding -/

theorem encode_length (i : Instr) : (encode i).length = i.width := by
  cases i
  case ld8 d => exact Laws.EncodeWidth.ld8 d
  case st8 d => exact Laws.EncodeWidth.st8 d
  all_goals rfl

theorem encode_ne_nil (i : Instr) : encode i ≠ [] := by
  cases i <;> simp [encode]

/-- The decoder reads an instruction from its encoding, whatever bytes follow. -/
theorem decodeBytes_encode_append (i : Instr) (rest : List Byte) : decodeBytes (byteAt (encode i ++ rest)) = i := by
  cases i
  case ldal sel r =>
    rw [decodeBytes_ldal (t := ldalTrait sel r) rfl, aluInputOf_ldalTrait, lowThree_ldalTrait]
  case sacc => exact decodeBytes_sacc rfl
  case lsr t addr => exact (decodeBytes_lsr rfl).trans (congrArg _ (addr16_hi_lo addr))
  case alu => exact decodeBytes_alu rfl
  case stk => exact decodeBytes_stk rfl
  case jmp t addr => exact (decodeBytes_jmp rfl).trans (congrArg _ (addr16_hi_lo addr))
  case jcc => exact decodeBytes_jcc rfl
  case movb => exact decodeBytes_movb rfl
  case ssp t addr => exact (decodeBytes_ssp rfl).trans (congrArg _ (addr16_hi_lo addr))
  case jsr t addr => exact (decodeBytes_jsr rfl).trans (congrArg _ (addr16_hi_lo addr))
  case rts => exact decodeBytes_rts rfl
  case undefGpioB => exact decodeBytes_undefGpioB rfl
  case undefGpioC => exact decodeBytes_undefGpioC rfl
  case undefD => exact decodeBytes_undefD rfl
  case undefE => exact decodeBytes_undefE rfl
  case hlt => exact decodeBytes_hlt rfl
  case ld8 d => exact (decodeBytes_ld8 rfl).trans (congrArg _ (octetOf_byteAt_cons_append _ d rest))
  case st8 d => exact (decodeBytes_st8 rfl).trans (congrArg _ (octetOf_byteAt_cons_append _ d rest))
  case nop => exact decodeBytes_nop rfl
  case wscr => exact decodeBytes_wscr rfl
  case rkbd => exact decodeBytes_rkbd rfl
  case ckbd => exact decodeBytes_ckbd rfl
  case undefSf7 => exact decodeBytes_undefSf7 rfl
  case undefSf8to15 => exact decodeBytes_undefSf8to15 rfl

/-- The encoding has the instruction's width, and the decoder reads the instruction from it. -/
theorem decode_encode_append (i : Instr) (rest : List Byte) : decode (encode i ++ rest) = .ok (i, rest) := by
  refine decode_eq_ok_iff.2 ⟨by simp [encode_ne_nil], ?width, decodeBytes_encode_append i rest, ?rest⟩
  case width => simp [encode_length]
  case rest => rw [← encode_length, List.drop_left]

/-- Settles O23, by the constructor of the instruction in `decodeBytes_encode_append`. -/
theorem decodeInvertsEncode : Obligations.DecodeInvertsEncode := decode_encode_append

/-! ### Encoding a decoding -/

theorem instrByte_traitOf {ib : Byte} {op : Nibble} (h : (opcodeOf ib).toNat = op.toNat) : instrByte op (traitOf ib) = ib := by
  rw [← BitVec.eq_of_toNat_eq h, instrByte_opcode_trait]

/-- A trait from 8 on is a set bit 3 over its low three bits (R97). -/
theorem highTrait_lowThree {t : Nibble} (h : 8 ≤ t.toNat) : 1#1 ++ lowThree t = t := by
  revert t; decide

/-- Under opcode 0xF the encoding is the instruction byte with that trait and the operand bytes (R97). -/
theorem encode_decodeSpecial {t : Nibble} {b : Nat → Byte} (h : b 0 = instrByte 0xF t) :
    encode (decodeSpecial t b) = (List.range (widthOf (instrByte 0xF t))).map b := by
  unfold decodeSpecial
  split
  case h_9 =>
    have hhigh : 8 ≤ t.toNat := by grind
    simp [widthOf, encode, highTrait_lowThree hhigh, *]
  all_goals
    next ht =>
    have hbyte : b 0 = instrByte 0xF (BitVec.ofNat 4 t.toNat) := by simpa using h
    rw [ht] at hbyte
    simp [widthOf, ht, encode, octetOf_toList, List.range_succ]
    exact hbyte.symm

/-- The encoding of a decoding is the bytes that were read, and no more (R91). -/
theorem encode_decodeBytes (b : Nat → Byte) : encode (decodeBytes b) = (List.range (widthOf (b 0))).map b := by
  unfold decodeBytes
  split
  case h_16 =>
    have hF : opcodeOf (b 0) = 0xF := opcodeOf_eq_special (by grind)
    have hb0 : instrByte 0xF (traitOf (b 0)) = b 0 := by rw [← hF, instrByte_opcode_trait]
    rw [encode_decodeSpecial hb0.symm, hb0]
  all_goals
    next hop => simp [widthOf, hop, encode, instrByte_traitOf, List.range_succ]

/-- The first `n` places of a list that has them are its first `n` bytes. -/
theorem map_byteAt_range {l : List Byte} {n : Nat} (h : n ≤ l.length) : (List.range n).map (byteAt l) = l.take n := by
  apply List.ext_getElem
  · simpa using h
  · intro k hk _
    have hkl : k < l.length := by simp at hk; omega
    simp [byteAt, hkl]

/-- Settles O24: the bytes read are the encoding, and what is left is the rest. -/
theorem encodeInvertsDecode : Obligations.EncodeInvertsDecode := by
  intro bytes i rest h
  obtain ⟨-, hlong, rfl, rfl⟩ := decode_eq_ok_iff.1 h
  rw [encode_decodeBytes, ← decodeBytes_width, map_byteAt_range hlong, List.take_append_drop]

end Sys2Proof


/-! PROOFS. The opcode map byte by byte (R96, R98): the instruction byte alone fixes an instruction's row and whether it halts, so
what is left to say is a finite table of 256 bytes. -/

namespace Sys2Proof

open Sys2Proof.Machine

/-- The instruction byte alone picks the row, and says whether and with which cause the instruction halts (R96, R98). -/
theorem decodeBytes_row_and_cause_congr {b b' : Nat → Byte} (h : b 0 = b' 0) :
    (decodeBytes b).tableIndex = (decodeBytes b').tableIndex ∧
      haltingCause (decodeBytes b) = haltingCause (decodeBytes b') := by
  unfold decodeBytes
  rw [h]
  split
  case h_16 =>
    unfold decodeSpecial
    split <;> exact ⟨rfl, rfl⟩
  all_goals exact ⟨rfl, rfl⟩

/-! ### The table of rows -/

theorem opcodeTable_one_row_holds (ib : Byte) : (opcodeTable.filter fun row => row.holds ib).length = 1 := by
  revert ib; decide

theorem opcodeTable_row_of_decoded (ib : Byte) :
    (opcodeTable[(decodeBytes fun _ => ib).tableIndex]?).any (fun row => row.holds ib && row.width == widthOf ib) = true := by
  revert ib; decide

/-- Settles O25: row and width depend on the instruction byte, and the table is right for each of the 256. -/
theorem opcodeMapIsComplete : Obligations.OpcodeMapIsComplete := by
  intro b
  refine ⟨opcodeTable_one_row_holds (b 0), ?decoded⟩
  case decoded =>
    obtain ⟨row, hrow, hholds⟩ := (Option.any_eq_true ..).1 (opcodeTable_row_of_decoded (b 0))
    simp only [Bool.and_eq_true, beq_iff_eq] at hholds
    obtain ⟨hindex, -⟩ := decodeBytes_row_and_cause_congr (b := b) (b' := fun _ => b 0) rfl
    rw [hindex, decodeBytes_width]
    exact ⟨row, hrow, hholds⟩

/-! ### The fatal bytes -/

/-- The halting cause of each byte: HALT at 0xF0 and the fatal ranges (R98, R201). -/
theorem haltingCause_decodeBytes (b : Nat → Byte) :
    haltingCause (decodeBytes b) =
      if 0xB0 ≤ (b 0).toNat ∧ (b 0).toNat ≤ 0xCF then some .undefGpio
      else if 0xD0 ≤ (b 0).toNat ∧ (b 0).toNat ≤ 0xEF then some .undefOpcode
      else if 0xF7 ≤ (b 0).toNat then some .undefSf
      else if (b 0).toNat = 0xF0 then some .halt
      else none := by
  obtain ⟨-, hcause⟩ := decodeBytes_row_and_cause_congr (b := b) (b' := fun _ => b 0) rfl
  rw [hcause]
  generalize b 0 = ib
  revert ib; decide

/-- From cause NONE the handler leaves the instruction's own cause, NONE if it does not halt (R34). -/
theorem exec_cause {i : Instr} {s t : State} (h : exec i s = .next t) (hs : s.cause = .none) :
    t.cause = (haltingCause i).getD .none := by
  cases hc : haltingCause i with
  | none =>
    obtain ⟨-, hcause⟩ := exec_keeps_run_cause h hc
    rw [hcause, hs, Option.getD_none]
  | some c =>
    obtain ⟨-, hcause, -⟩ := exec_halts h hc
    rw [hcause, Option.getD_some]

/-- Settles O28: the next state's cause is the byte's, and the ranges of the table do not meet. -/
theorem fatalExactlyOnTheFatalBytes : Obligations.FatalExactlyOnTheFatalBytes := by
  intro b s hs
  obtain ⟨t, h⟩ := exec_answers_next (decodeBytes b) s
  refine ⟨t, h, ?_⟩
  rw [exec_cause h hs, haltingCause_decodeBytes, isFatalByte]
  generalize (b 0).toNat = n
  split_ifs <;> simp [Cause.isFatal] <;> omega

end Sys2Proof


/-! PROOFS. The assembler's table (R100): the bytes of each line in plain numbers. -/

namespace Sys2Proof

/-! ### Bit fields of plain numbers -/

theorem instrByte_ofNat {op t : Nat} (ht : t < 16) :
    instrByte (BitVec.ofNat 4 op) (BitVec.ofNat 4 t) = BitVec.ofNat 8 (16 * op + t) := by
  apply BitVec.eq_of_toNat_eq
  rw [instrByte, BitVec.toNat_append, ← Nat.shiftLeft_add_eq_or_of_lt (BitVec.isLt _), Nat.shiftLeft_eq]
  simp only [BitVec.toNat_ofNat]
  omega

theorem ldalTrait_ofNat {r : Nat} (hr : r < 8) :
    ldalTrait .a (BitVec.ofNat 3 r) = BitVec.ofNat 4 r ∧ ldalTrait .b (BitVec.ofNat 3 r) = BitVec.ofNat 4 (8 + r) := by
  interval_cases r <;> exact ⟨rfl, rfl⟩

theorem addrHi_ofNat {addr : Nat} (h : addr < 65536) : addrHi (BitVec.ofNat 16 addr) = BitVec.ofNat 8 (addr / 256) := by
  apply BitVec.eq_of_toNat_eq
  rw [addrHi, BitVec.extractLsb'_toNat, Nat.shiftRight_eq_div_pow, BitVec.toNat_ofNat, BitVec.toNat_ofNat]
  omega

theorem addrLo_ofNat (addr : Nat) : addrLo (BitVec.ofNat 16 addr) = BitVec.ofNat 8 (addr % 256) := by
  apply BitVec.eq_of_toNat_eq
  rw [addrLo, BitVec.extractLsb'_toNat, Nat.shiftRight_eq_div_pow, BitVec.toNat_ofNat, BitVec.toNat_ofNat]
  omega

/-- A list of eight numbers as bytes. -/
theorem octetOfNats_toList {d : List Nat} (h : d.length = 8) : (octetOfNats d).toList = d.map (BitVec.ofNat 8) := by
  match d, h with
  | [_, _, _, _, _, _, _, _], _ => rfl

/-- The offset byte of a target within reach (R100). -/
theorem ofInt_target_sub {p target : Nat} (h : isReach p target = true) :
    BitVec.ofInt 8 ((target : Int) - (p : Int)) = BitVec.ofNat 8 ((target + 256 - p) % 256) := by
  simp only [isReach, Bool.and_eq_true, decide_eq_true_eq] at h
  apply BitVec.eq_of_toNat_eq
  rw [BitVec.toNat_ofInt, BitVec.toNat_ofNat]
  omega

/-! ### The lines of the table -/

section Lines

variable (p : Nat)

/-- A line of one instruction byte (R92, FT). -/
theorem assemble_trait_line {line : Asm} {op t : Nat} (ht : t < 16)
    (h : assemble p line = [instrByte (BitVec.ofNat 4 op) (BitVec.ofNat 4 t)]) :
    assemble p line = [BitVec.ofNat 8 (16 * op + t)] := by
  rw [h, instrByte_ofNat ht]

/-- A line with an address operand, most significant byte first (R92, FA; R65). -/
theorem assemble_addr_line {line : Asm} {op t addr : Nat} (ht : t < 16) (haddr : addr < 65536)
    (h : assemble p line = [instrByte (BitVec.ofNat 4 op) (BitVec.ofNat 4 t), addrHi (BitVec.ofNat 16 addr),
      addrLo (BitVec.ofNat 16 addr)]) :
    assemble p line = [BitVec.ofNat 8 (16 * op + t), BitVec.ofNat 8 (addr / 256), BitVec.ofNat 8 (addr % 256)] := by
  rw [h, instrByte_ofNat ht, addrHi_ofNat haddr, addrLo_ofNat]

theorem assemble_ldal {r : Nat} (hr : r < 8) :
    assemble p (.ldal .a r) = [BitVec.ofNat 8 r] ∧ assemble p (.ldal .b r) = [BitVec.ofNat 8 (8 + r)] := by
  obtain ⟨ha, hb⟩ := ldalTrait_ofNat hr
  constructor
  · simpa using assemble_trait_line p (op := 0) (t := r) (by omega) (by rw [← ha]; rfl)
  · simpa using assemble_trait_line p (op := 0) (t := 8 + r) (by omega) (by rw [← hb]; rfl)

theorem assemble_jcc {c target : Nat} (h : (Asm.jcc c target).wellFormed p = true) :
    assemble p (.jcc c target) = [BitVec.ofNat 8 (0x60 + c), BitVec.ofNat 8 ((target + 256 - p) % 256)] := by
  obtain ⟨hc, hreach⟩ : c < 16 ∧ isReach p target = true := by simpa [Asm.wellFormed, isTrait] using h
  rw [← ofInt_target_sub hreach, show 0x60 + c = 16 * 6 + c from rfl, ← instrByte_ofNat hc]
  rfl

theorem assemble_movb {t : Nat} (ht : t < 16) (b1 b2 : Nat) :
    assemble p (.movb t b1 b2) = [BitVec.ofNat 8 (0x70 + t), BitVec.ofNat 8 b1, BitVec.ofNat 8 b2] := by
  rw [show 0x70 + t = 16 * 7 + t from rfl, ← instrByte_ofNat ht]
  rfl

theorem assemble_octet {d : List Nat} (h : isOctet d = true) :
    assemble p (.ld8 d) = 0xF1 :: d.map (BitVec.ofNat 8) ∧ assemble p (.st8With d) = 0xF2 :: d.map (BitVec.ofNat 8) := by
  obtain ⟨hlen, -⟩ : d.length = 8 ∧ _ := by simpa only [isOctet, Bool.and_eq_true, decide_eq_true_eq] using h
  rw [← octetOfNats_toList hlen]
  exact ⟨rfl, rfl⟩

end Lines

/-- Settles O30, line by line. -/
theorem linesAssembleAsTabled : Obligations.LinesAssembleAsTabled := by
  intro p
  refine ⟨fun r hr => ?reg, fun t ht => ⟨?sacc, ?alu, ?stk⟩, fun t addr ht haddr => ?lsr, fun addr haddr => ⟨?jmp, ?ssp, ?jsr⟩,
    fun c target h => assemble_jcc p h, fun t b1 b2 ht => assemble_movb p ht b1 b2, fun _ _ => rfl,
    fun d hd => assemble_octet p hd, rfl, rfl, rfl, rfl, rfl, fun _ => rfl⟩
  case reg =>
    obtain ⟨ha, hb⟩ := assemble_ldal p hr
    exact ⟨ha, hb, rfl⟩
  case sacc => exact assemble_trait_line p (op := 1) ht rfl
  case alu => exact assemble_trait_line p (op := 3) ht rfl
  case stk => exact assemble_trait_line p (op := 4) ht rfl
  case lsr => exact assemble_addr_line p (op := 2) ht haddr rfl
  case jmp => exact assemble_addr_line p (op := 5) (t := 0) (by omega) haddr rfl
  case ssp => exact assemble_addr_line p (op := 8) (t := 0) (by omega) haddr rfl
  case jsr => exact assemble_addr_line p (op := 9) (t := 0) (by omega) haddr rfl

/-- Settles O29: the words are short, and the decoder computes. -/
theorem sampleWordsDecode : Obligations.SampleWordsDecode := ⟨rfl, rfl, rfl, rfl, rfl, rfl⟩

end Sys2Proof

/-! PROOFS. The relative target of JCC (R175): two's complement offsets, and the target a line was assembled for. -/

namespace Sys2Proof.Machine

open Sys2Proof

/-- `sext_8` is the two's complement reading of the byte (R8, G1). -/
theorem sext8_eq_toInt (v : Byte) : sext8 v = v.toInt := by
  rw [sext8, BitVec.toInt_eq_toNat_cond]
  split <;> split <;> omega

theorem State.relTarget_cast (s : State) (off : Byte) :
    (s.relTarget off : Int) = ((s.pc : Int) + off.toInt) % (s.size : Int) := by
  rw [State.relTarget, State.wrap_cast, sext8_eq_toInt]

/-- The offset of a target within reach leads back to it (R100, R175). -/
theorem State.relTarget_ofInt_target_sub {s : State} {target : Nat} (h : isReach s.pc target = true) :
    s.relTarget (BitVec.ofInt 8 ((target : Int) - (s.pc : Int))) = target % s.size := by
  simp only [isReach, Bool.and_eq_true, decide_eq_true_eq] at h
  have hoff : (BitVec.ofInt 8 ((target : Int) - (s.pc : Int))).toInt = (target : Int) - (s.pc : Int) := by
    rw [BitVec.toInt_ofInt, Int.bmod_eq_of_le] <;> omega
  zify
  rw [State.relTarget_cast, hoff, add_sub_cancel]

/-- Settles O31: the line assembles to an encoding, and its offset leads back to the target. -/
theorem assembledJccReachesItsTarget : Obligations.AssembledJccReachesItsTarget := by
  intro s c target h
  obtain ⟨-, hreach⟩ : c < 16 ∧ isReach s.pc target = true := by simpa [Asm.wellFormed, isTrait] using h
  let i : Instr := .jcc (BitVec.ofNat 4 c) (BitVec.ofInt 8 ((target : Int) - (s.pc : Int)))
  have hdecode : decode (encode i) = .ok (i, []) := by simpa using decode_encode_append i []
  refine ⟨i, hdecode, fun hcond => ⟨_, exec_jcc s _ _, ?_⟩⟩
  rw [State.jumpTo_pc, if_pos hcond, State.relTarget_ofInt_target_sub hreach]

/-- Settles O40: COND as the state binds it, and the two targets. -/
theorem jccGoesToTargetOrFallsThrough : Obligations.JccGoesToTargetOrFallsThrough := by
  intro s c b hb
  refine ⟨decodeBytes_jcc hb, fun hfree => ?free, fun bits htable => ?table, fun r hcond hflags => ?alike,
    _, exec_jcc s c (b 1), rfl, fun htaken => ?taken, fun hnot => ?fallsThrough⟩
  case free => rw [State.condHolds, hfree]; rfl
  case table => rw [State.condHolds, htable]; rfl
  case alike => rw [State.condHolds, hcond, hflags]; rfl
  case taken => rw [State.jumpTo_pc, if_pos htaken, State.relTarget_cast]
  case fallsThrough => simp [hnot]

end Sys2Proof.Machine


/-! PROOFS. Reset and boot (R38, R270 to R273): the reset state meets the invariant for every configuration and canonical memory. -/

namespace Sys2Proof.Machine

open Sys2Proof

/-- R38's values meet the invariant, whatever the configuration with a fatal filler and the canonical memory. -/
theorem State.resetWith_inv {cfg : Config.Params} {mem : Memory} (env : Env)
    (hmem : Memory.wf (Memory.unlisted cfg) cfg.memSize mem = true) (hfill : isFatalByte cfg.fillByte = true) :
    (State.resetWith cfg mem env).Inv where
  memCanonical := hmem
  pcInRange := State.size_pos _
  spInRange := State.size_pos _
  rasInRange j := by
    rw [State.resetWith, Fin.getElem_fin, Vector.getElem_replicate]
    exact State.size_pos _
  fillIsFatal := hfill
  causeNoneIffRunning := by simp [State.resetWith]

/-- Settles O19: memory lists nothing and the filler 0xFF is fatal. -/
theorem resetMeetsInvariant : Obligations.ResetMeetsInvariant := State.resetWith_inv Env.fresh rfl rfl

/-- Settles O15: the registers are a table of zeros, and an empty memory reads as the filler. -/
theorem resetLeavesTheTabledValues : Obligations.ResetLeavesTheTabledValues := by
  refine ⟨fun cfg mem env => ?values, rfl, fun _ => rfl⟩
  case values =>
    have hx : ∀ i : Fin 8, (State.resetWith cfg mem env).x[i] = 0 := fun i => Vector.getElem_replicate i.isLt
    have hras : ∀ j : Fin 16, (State.resetWith cfg mem env).ras[j] = 0 := fun j => Vector.getElem_replicate j.isLt
    exact ⟨hx, rfl, rfl, rfl, rfl, rfl, rfl, rfl, hras, rfl, rfl, rfl, rfl, rfl, rfl⟩

/-! ### Boot with its options given -/

/-- The machine a request loads meets the invariant: the image lies in [0, N) (D31). -/
theorem BootRequest.loaded_inv {r : BootRequest} (d st sc k : Bool) (hfill : isFatalByte r.fillByte = true) :
    (r.loaded d st sc k).Inv := by
  refine State.resetWith_inv r.env (loadImage_wfFrom r.fillByte _ 0 r.image ?_) hfill
  simp only [BootRequest.params, Config.Params.memSize]
  omega

/-- The configuration check passes when every option is given (R271). -/
theorem boot_of_options {r : BootRequest} {d st sc k : Bool} (hd : r.debug = some d) (hst : r.stepMode = some st)
    (hsc : r.screenEn = some sc) (hk : r.kbdEn = some k) : boot r = r.load d st sc k := by
  simp [boot, hd, hst, hsc, hk]

/-- Settles O18: an image that fits or is accepted loads, and the other one is the image error. -/
theorem bootSettlesWithGivenOptions : Obligations.BootSettlesWithGivenOptions := by
  intro r d st sc k hd hst hsc hk hfill
  rw [boot_of_options hd hst hsc hk]
  refine ⟨fun haccepted => ?loads, fun hlong hrejected => ?imageError⟩
  case loads => exact ⟨_, BootRequest.load_ok_iff.2 ⟨haccepted, hfill, rfl⟩, BootRequest.loaded_inv d st sc k hfill⟩
  case imageError => simp [BootRequest.load, hlong, hrejected]

end Sys2Proof.Machine


/-! PROOFS. Memory (R61, R63, R67) and the instructions LDAL, HLT, LD8, ST8, WSCR and RKBD: encoding, result and frame. -/

namespace Sys2Proof.Machine

open Sys2Proof

/-- Settles O21: the address is reduced before memory is read or written. -/
theorem memoryWrapsAndHoldsTheLastWrite : Obligations.MemoryWrapsAndHoldsTheLastWrite := by
  intro s a b v
  exact ⟨s.readByte_eq_of_modEq (Nat.mod_modEq a s.size).symm, s.readByte_writeByte_same v, s.readByte_writeByte_other v⟩

/-! ### LDAL and HLT -/

/-- Settles O32: bit 3 of the trait picks the input. -/
theorem ldalLoadsTheSelectedInput : Obligations.LdalLoadsTheSelectedInput := by
  intro s r b
  refine ⟨fun hb => ⟨?decodesA, exec_ldal s .a r⟩, fun hb => ⟨?decodesB, exec_ldal s .b r⟩⟩
  case decodesA =>
    rw [decodeBytes_ldal (t := ldalTrait .a r) hb, aluInputOf_ldalTrait, lowThree_ldalTrait]
  case decodesB =>
    rw [decodeBytes_ldal (t := ldalTrait .b r) hb, aluInputOf_ldalTrait, lowThree_ldalTrait]

/-- Settles O43: a halt changes run and cause, and a halted machine's instruction is not counted. -/
theorem hltHaltsWithCauseHalt : Obligations.HltHaltsWithCauseHalt := by
  intro s b hb
  exact ⟨decodeBytes_hlt hb, exec_hlt s, State.retire_icount_of_halted (s.halt_run .halt) .hlt⟩

/-! ### WSCR and RKBD -/

theorem State.writeScreen_of_enabled {s : State} (h : s.cfg.screenEn = true) (b1 b2 : Byte) :
    s.writeScreen b1 b2 = s.emit (.screenEmit b1 b2) := by
  simp [State.writeScreen, h]

theorem State.writeScreen_of_disabled {s : State} (h : s.cfg.screenEn = false) (b1 b2 : Byte) : s.writeScreen b1 b2 = s := by
  simp [State.writeScreen, h]

/-- Settles O47: the pair is emitted or not, and pc advances in either case. -/
theorem wscrEmitsThePairWhenEnabled : Obligations.WscrEmitsThePairWhenEnabled := by
  intro s b hb
  refine ⟨decodeBytes_wscr hb, fun hen => ?enabled, fun hen => ?disabled⟩
  case enabled => rw [exec_wscr, State.writeScreen_of_enabled hen]; rfl
  case disabled => rw [exec_wscr, State.writeScreen_of_disabled hen]; rfl

/-- The register an operand byte names (R93, D20). -/
theorem regOfByte_toNat (o1 : Byte) : (regOfByte o1).toNat = o1.toNat % 8 := by
  revert o1; decide

/-- Settles O48: one register is set, the one the low three bits name. -/
theorem rkbdCopiesKbdToTheRegister : Obligations.RkbdCopiesKbdToTheRegister := by
  intro s b hb
  refine ⟨decodeBytes_rkbd hb, _, exec_rkbd s _, rfl, fun i => ?registers⟩
  case registers =>
    simp only [State.advance_x, State.setReg_x, Fin.getElem_fin, Vector.getElem_set, regOfByte_toNat, eq_comm]

/-! ### LD8 and ST8 -/

/-- Settles O44: the registers become the octet. -/
theorem ld8LoadsTheNextEightBytes : Obligations.Ld8LoadsTheNextEightBytes := by
  intro s b hb
  exact ⟨decodeBytes_ld8 hb, _, exec_ld8 s _, rfl, fun i => octetOf_getElem b i.isLt⟩

section St8

variable {s u : State} {d : Octet}

/-- ST8's cells hold the registers (R204, D40). -/
theorem readByte_of_exec_st8_cell (h : exec (.st8 d) s = .next u) (i : Fin 8) : u.readByte (s.pc + 1 + i.val) = s.x[i] := by
  obtain rfl : _ = u := by simpa using h
  rw [State.readByte_advance, s.readByte_storeBytes_registers (by omega), dif_pos i.isLt]
  rfl

/-- Every other byte stays (R67). -/
theorem readByte_of_exec_st8_other (h : exec (.st8 d) s = .next u) {a : Nat}
    (ha : ∀ i : Fin 8, a % s.size ≠ (s.pc + 1 + i.val) % s.size) : u.readByte a = s.readByte a := by
  obtain rfl : _ = u := by simpa using h
  rw [State.readByte_advance]
  exact s.readByte_storeBytes_other _ _ a fun i hi => ha ⟨i, by simpa using hi⟩

end St8

/-- An instruction byte is none of the eight cells behind it: the address space is longer than nine bytes. -/
theorem State.pc_not_st8_cell (s : State) (i : Fin 8) : s.pc % s.size ≠ (s.pc + 1 + i.val) % s.size := by
  intro heq
  have hsize := s.size_ge
  have hzero : 0 = 1 + i.val :=
    (Nat.ModEq.add_left_cancel' s.pc (show s.pc + 0 ≡ s.pc + (1 + i.val) [MOD s.size] by rwa [← Nat.add_assoc])).eq_of_lt_of_lt
      (by omega) (by omega)
  omega

/-- Settles O45: the cells, every other byte, and the instruction byte among the others. -/
theorem st8StoresIntoTheNextEightCells : Obligations.St8StoresIntoTheNextEightCells := by
  intro s b hb
  have h := exec_st8 s (octetOf b)
  refine ⟨decodeBytes_st8 hb, _, h, ?frame, readByte_of_exec_st8_cell h, fun a ha => readByte_of_exec_st8_other h ha,
    readByte_of_exec_st8_other h s.pc_not_st8_cell⟩
  case frame => rw [State.storeBytes_eq]; rfl

/-! ### Bulk load and bulk store -/

/-- Two canonical memories of the same machine that read alike are equal data (log 12). -/
theorem State.mem_eq_of_readByte {s t : State} (hcfg : t.cfg = s.cfg)
    (hs : Memory.wf (Memory.unlisted s.cfg) s.size s.mem = true) (ht : Memory.wf (Memory.unlisted t.cfg) t.size t.mem = true)
    (h : ∀ a, t.readByte a = s.readByte a) : t.mem = s.mem := by
  have hsize : t.size = s.size := congrArg Config.Params.memSize hcfg
  rw [hcfg, hsize] at ht
  refine Memory.eq_of_wf ht hs fun a => ?_
  by_cases ha : a < s.size
  · have hread := h a
    rwa [State.readByte, State.readByte, hcfg, hsize, Nat.mod_eq_of_lt ha] at hread
  · rw [Memory.read_above ht (by omega), Memory.read_above hs (by omega)]

/-- Settles O59: the cells hold the registers, and where they did before, every byte reads as before. -/
theorem bulkStoreGivesBackTheBulkLoad : Obligations.BulkStoreGivesBackTheBulkLoad := by
  refine ⟨fun d e s t v u hload hx hstore i => ?loaded, fun e v u hinv hcells hstore => ?unchanged⟩
  case loaded =>
    obtain rfl : _ = t := by simpa using hload
    rw [readByte_of_exec_st8_cell hstore i, hx]
    rfl
  case unchanged =>
    obtain ⟨-, hcfg, -⟩ := exec_keeps_icount_cfg_env hstore
    have hsize : u.size = v.size := congrArg Config.Params.memSize hcfg
    refine State.mem_eq_of_readByte hcfg hinv.memCanonical (hinv.exec hstore).memCanonical fun a => ?_
    by_cases ha : ∀ i : Fin 8, a % v.size ≠ (v.pc + 1 + i.val) % v.size
    · exact readByte_of_exec_st8_other hstore ha
    · obtain ⟨i, hi⟩ : ∃ i : Fin 8, a % v.size = (v.pc + 1 + i.val) % v.size := by simpa using ha
      calc u.readByte a
          = u.readByte (v.pc + 1 + i.val) := u.readByte_eq_of_modEq (by rw [hsize]; exact hi)
        _ = v.x[i] := readByte_of_exec_st8_cell hstore i
        _ = v.readByte (v.pc + 1 + i.val) := (hcells i).symm
        _ = v.readByte a := v.readByte_eq_of_modEq hi.symm

end Sys2Proof.Machine


/-! PROOFS. The parts of a step around the handler (R120, R121): the fetch reads the nine bytes at pc, and what the console and the
keyboard channel do in the gap phase (R245, R248). -/

namespace Sys2Proof.Machine

open Sys2Proof

/-- Settles O1: the fetch decodes the nine bytes at pc, and no more are looked at. -/
theorem stepRunsDecodedInstruction : Obligations.StepRunsDecodedInstruction := by
  intro s t i rest hr hg hdecode
  obtain ⟨-, -, rfl, -⟩ := decode_eq_ok_iff.1 hdecode
  have hfetch : t.fetch = decodeBytes (byteAt (t.bytesAt t.pc maxWidth)) :=
    State.fetch_eq_decodeBytes fun k hk => (t.bytesAt_getD t.pc maxWidth k hk).symm
  rw [step_of_ready hr hg, ← hfetch]
  unfold State.runInstr
  cases exec t.fetch t <;> rfl

/-! ### The single-step wait -/

section StepMode

variable {s : State}

theorem State.gapPhase_of_unanswered (hm : s.cfg.stepMode = true) (hf : s.consoleFinds = none) :
    s.gapPhase = .done s.afterLook := by
  simp [State.gapPhase, hm, hf]

theorem State.gapPhase_of_abort (hm : s.cfg.stepMode = true) (hf : s.consoleFinds = some .abort) :
    s.gapPhase = .done ((s.afterLook.emit (.stepWait .abort)).halt .abort) := by
  simp [State.gapPhase, hm, hf]

theorem State.gapPhase_of_continue (hm : s.cfg.stepMode = true) (hf : s.consoleFinds = some .continue) :
    s.gapPhase = .ready (s.afterLook.emit (.stepWait .continue)).pollKeyboard := by
  simp [State.gapPhase, hm, hf]

theorem State.gapPhase_of_not_stepMode (hm : s.cfg.stepMode = false) : s.gapPhase = .ready s.pollKeyboard := by
  simp [State.gapPhase, hm]

theorem State.consoleFinds_of_script (h : s.env.waits < s.env.ackScript.length) :
    s.consoleFinds = s.env.ackScript[s.env.waits] := by
  simp [State.consoleFinds, h]

theorem State.consoleFinds_past_script (h : s.env.ackScript.length ≤ s.env.waits) :
    s.consoleFinds = ackOfFree (Config.consoleAnswer s.env.waits) := by
  simp [State.consoleFinds, h]

theorem step_of_gapPhase_done {u : State} (hr : s.run = .running) (hg : s.gapPhase = .done u) : step s = .next u :=
  step_next_iff.2 ⟨hr, .inl hg⟩

end StepMode

/-- Settles O5: the three findings of a look, and where they come from. -/
theorem singleStepWaitAnswers : Obligations.SingleStepWaitAnswers := by
  intro s hr hm
  exact ⟨fun hf => step_of_gapPhase_done hr (State.gapPhase_of_abort hm hf), State.gapPhase_of_continue hm,
    fun hf => step_of_gapPhase_done hr (State.gapPhase_of_unanswered hm hf), State.consoleFinds_of_script,
    State.consoleFinds_past_script⟩

/-! ### The keyboard poll -/

section Poll

variable {s : State}

theorem State.pollKeyboard_of_disabled (hen : s.cfg.kbdEn = false) : s.pollKeyboard = s := by
  simp [State.pollKeyboard, hen]

theorem State.pollKeyboard_of_enabled (hen : s.cfg.kbdEn = true) {r : Option Byte} (hr : s.pollReturns = r) :
    s.pollKeyboard = (s.afterPoll.emit (.kbdPoll r)).orKbd r := by
  simp [State.pollKeyboard, hen, hr]

theorem State.pollReturns_of_script (h : s.env.polls < s.env.kbdScript.length) :
    s.pollReturns = s.env.kbdScript[s.env.polls] := by
  simp [State.pollReturns, h]

theorem State.pollReturns_past_script (h : s.env.kbdScript.length ≤ s.env.polls) :
    s.pollReturns = Config.kbdPoll s.env.polls := by
  simp [State.pollReturns, h]

end Poll

/-- Settles O6: what a poll does, where its result comes from, and the two gap phases that poll. -/
theorem keyboardPollOrsTheByteIn : Obligations.KeyboardPollOrsTheByteIn := by
  intro s
  exact ⟨State.pollKeyboard_of_disabled, fun hen _ hr => State.pollKeyboard_of_enabled hen hr,
    fun hen hr => State.pollKeyboard_of_enabled hen hr, State.pollReturns_of_script, State.pollReturns_past_script,
    State.gapPhase_of_not_stepMode, State.gapPhase_of_continue⟩

end Sys2Proof.Machine


/-! PROOFS. Nested calls (R186, C3): the ring of return addresses read backwards from ASP. A call puts its return address in front
and moves the others one place back, until the sixteenth is lost. -/

namespace Sys2Proof.Machine

open Sys2Proof

/-! ### The ring, read backwards from ASP -/

/-- Counting ASP down by `d` goes `d` slots back around the ring of 16 (R32). -/
theorem rasSlot_sub_val (asp : BitVec 32) (d : Nat) : (rasSlot (asp - BitVec.ofNat 32 d)).val = (asp.toNat + 15 * d) % 16 := by
  rw [rasSlot_val, BitVec.toNat_sub, BitVec.toNat_ofNat]
  omega

/-- Where the return goes that `k` other returns come before: the slot of ASP - 1 - k (R184). -/
def State.returnSlot (s : State) (k : Nat) : Nat :=
  s.ras[rasSlot (s.asp - BitVec.ofNat 32 (k + 1))]

/-- The state a call leaves (R180). -/
def State.called (s : State) (c : Call) : State :=
  (State.pushReturn { s with pc := c.pc } (c.returnAddress s.size)).jumpTo c.target.toNat

theorem exec_jsr_of_call (s : State) (c : Call) : exec (.jsr c.t c.target) { s with pc := c.pc } = .next (s.called c) := rfl

@[simp] theorem State.called_size (s : State) (c : Call) : (s.called c).size = s.size := rfl

theorem State.popReturn_pc_eq_returnSlot (s : State) : s.popReturn.pc = s.returnSlot 0 := by
  simp [State.returnSlot]

theorem State.returnSlot_popReturn (s : State) (k : Nat) : s.popReturn.returnSlot k = s.returnSlot (k + 1) := by
  have hasp : s.asp - 1 - BitVec.ofNat 32 (k + 1) = s.asp - BitVec.ofNat 32 (k + 1 + 1) := by bv_omega
  simp only [State.returnSlot, State.popReturn_asp, State.popReturn_ras, hasp]

/-- The ring has 16 slots (R31). -/
theorem State.returnSlot_add_sixteen (s : State) (k : Nat) : s.returnSlot (k + 16) = s.returnSlot k := by
  have hslot : rasSlot (s.asp - BitVec.ofNat 32 (k + 16 + 1)) = rasSlot (s.asp - BitVec.ofNat 32 (k + 1)) := by
    rw [Fin.ext_iff, rasSlot_sub_val, rasSlot_sub_val]
    omega
  simp only [State.returnSlot, hslot]

/-- The call's own return address is in front. -/
theorem State.returnSlot_called_zero (s : State) (c : Call) : (s.called c).returnSlot 0 = c.returnAddress s.size := by
  simp [State.returnSlot, State.called]

/-- The return addresses before it are one place further back, but for the one whose slot it took. -/
theorem State.returnSlot_called_succ (s : State) (c : Call) {k : Nat} (hk : k < 15) :
    (s.called c).returnSlot (k + 1) = s.returnSlot k := by
  have hasp : s.asp + 1 - BitVec.ofNat 32 (k + 1 + 1) = s.asp - BitVec.ofNat 32 (k + 1) := by bv_omega
  have hne : (rasSlot s.asp).val ≠ (rasSlot (s.asp - BitVec.ofNat 32 (k + 1))).val := by
    rw [rasSlot_val, rasSlot_sub_val]
    omega
  simp only [State.returnSlot, State.called, State.jumpTo_asp, State.jumpTo_ras, State.pushReturn_asp, State.pushReturn_ras,
    Fin.getElem_fin, hasp, Vector.getElem_set_ne _ _ hne]

/-! ### Chains of calls and of returns -/

theorem nestCalls_eq (calls : List Call) (s : State) : nestCalls calls s = .next (calls.foldl State.called s) := by
  induction calls generalizing s with
  | nil => rfl
  | cons c rest ih =>
    rw [nestCalls, exec_jsr_of_call]
    exact ih (s.called c)

theorem State.foldl_called_size (s : State) (calls : List Call) : (calls.foldl State.called s).size = s.size := by
  induction calls generalizing s with
  | nil => rfl
  | cons c rest ih => exact ih (s.called c)

theorem returnTargets_succ (n : Nat) (s : State) :
    returnTargets (n + 1) s = s.popReturn.pc :: returnTargets n s.popReturn := rfl

/-- A chain of returns reads the ring backwards. -/
theorem returnTargets_eq (n : Nat) (s : State) : returnTargets n s = (List.range n).map s.returnSlot := by
  induction n generalizing s with
  | zero => rfl
  | succ n ih =>
    have hslots : s.popReturn.returnSlot = s.returnSlot ∘ Nat.succ := funext s.returnSlot_popReturn
    rw [returnTargets_succ, ih, hslots, s.popReturn_pc_eq_returnSlot, List.range_succ_eq_map, List.map_cons, List.map_map]

/-- After nested calls the last sixteen return addresses stand in the ring, the last call's in front. -/
theorem State.returnSlot_foldl_called (s : State) (calls : List Call) {k : Nat} (hk : k < calls.length) (h16 : k < 16) :
    (calls.map (Call.returnAddress s.size)).reverse[k]? = some ((calls.foldl State.called s).returnSlot k) := by
  induction calls using List.reverseRecOn generalizing k with
  | nil => simp at hk
  | append_singleton rest c ih =>
    rw [List.foldl_append, List.map_append, List.reverse_append]
    cases k with
    | zero => simp [State.returnSlot_called_zero, State.foldl_called_size]
    | succ k =>
      have hprev := ih (k := k) (by simpa using hk) (by omega)
      simpa [State.returnSlot_called_succ _ c (show k < 15 by omega)] using hprev

/-- Up to sixteen returns after as many calls go to their return addresses in reverse order. -/
theorem State.map_returnSlot_foldl_called (s : State) {calls : List Call} (hlen : calls.length ≤ 16) :
    (List.range calls.length).map (calls.foldl State.called s).returnSlot =
      (calls.map (Call.returnAddress s.size)).reverse := by
  apply List.ext_getElem?
  intro k
  by_cases hk : k < calls.length
  · rw [s.returnSlot_foldl_called calls hk (by omega)]
    simp [hk]
  · rw [List.getElem?_eq_none (by simpa using hk), List.getElem?_eq_none (by simpa using hk)]

/-- Settles O60: the returns read the ring backwards, and the seventeenth finds the first slot they read again. -/
theorem nestedCallsReturnInReverse : Obligations.NestedCallsReturnInReverse := by
  refine ⟨fun s calls hlen => ⟨_, nestCalls_eq calls s, ?upToSixteen⟩,
    fun s first calls hlen => ⟨_, nestCalls_eq (first :: calls) s, ?seventeen⟩⟩
  case upToSixteen => rw [returnTargets_eq, s.map_returnSlot_foldl_called hlen]
  case seventeen =>
    have hlast := (s.called first).map_returnSlot_foldl_called hlen.le
    rw [hlen, State.called_size] at hlast
    rw [returnTargets_eq, List.foldl_cons, ← hlast, List.range_succ, List.map_append, List.map_singleton,
      State.returnSlot_add_sixteen _ 0]
    rfl

end Sys2Proof.Machine


/-! PROOFS. Debug mode changes no architectural state (R251): taking DEBUG and the telemetry out of a state commutes with every part
of a step, since no part reads either but to add telemetry. -/

namespace Sys2Proof.Machine

open Sys2Proof

/-- An outcome with DEBUG and telemetry taken out of its state. -/
def outcomeWithoutTelemetry : Host.Outcome State Fault Refusal → Host.Outcome State Fault Refusal
  | .next s => .next s.withoutTelemetry
  | .fault f => .fault f
  | .refused r => .refused r

@[simp] theorem outcomeWithoutTelemetry_next (s : State) : outcomeWithoutTelemetry (.next s) = .next s.withoutTelemetry := rfl

theorem agreeButTelemetry_iff {o o' : Host.Outcome State Fault Refusal} :
    agreeButTelemetry o o' ↔ outcomeWithoutTelemetry o = outcomeWithoutTelemetry o' := by
  cases o <;> cases o' <;> simp [agreeButTelemetry, outcomeWithoutTelemetry]

/-! ### Events -/

section Events

variable {s : State} {e : Event}

theorem State.withoutTelemetry_emit (he : e.isTelemetry = false) :
    (s.emit e).withoutTelemetry = s.withoutTelemetry.emit e := by
  simp [State.withoutTelemetry, State.emit, he]

theorem State.withoutTelemetry_emit_telemetry (he : e.isTelemetry = true) :
    (s.emit e).withoutTelemetry = s.withoutTelemetry := by
  simp [State.withoutTelemetry, State.emit, he]

end Events

/-! ### The gap phase -/

section GapPhase

variable {s u : State}

theorem State.withoutTelemetry_orKbd (s : State) (r : Option Byte) :
    (s.orKbd r).withoutTelemetry = s.withoutTelemetry.orKbd r := by
  cases r <;> rfl

theorem State.withoutTelemetry_pollKeyboard (s : State) : s.pollKeyboard.withoutTelemetry = s.withoutTelemetry.pollKeyboard := by
  cases hen : s.cfg.kbdEn with
  | false => rw [State.pollKeyboard_of_disabled hen, State.pollKeyboard_of_disabled (s := s.withoutTelemetry) hen]
  | true =>
    rw [State.pollKeyboard_of_enabled hen rfl, State.pollKeyboard_of_enabled (s := s.withoutTelemetry) hen rfl,
      State.withoutTelemetry_orKbd, State.withoutTelemetry_emit rfl]
    rfl

theorem State.gapPhase_done_withoutTelemetry (h : s.gapPhase = .done u) :
    s.withoutTelemetry.gapPhase = .done u.withoutTelemetry := by
  obtain ⟨-, hg⟩ | ⟨hm, hf, hg⟩ | ⟨hm, hf, hg⟩ | ⟨-, -, hg⟩ := s.gapPhase_cases
  · cases hg.symm.trans h
  · obtain rfl := Gap.done.inj (hg.symm.trans h)
    exact State.gapPhase_of_unanswered (s := s.withoutTelemetry) hm hf
  · obtain rfl := Gap.done.inj (hg.symm.trans h)
    have habort : ((s.afterLook.emit (.stepWait .abort)).halt .abort).withoutTelemetry =
        (s.withoutTelemetry.afterLook.emit (.stepWait .abort)).halt .abort :=
      congrArg (State.halt · .abort) (State.withoutTelemetry_emit (s := s.afterLook) rfl)
    rw [habort, State.gapPhase_of_abort (s := s.withoutTelemetry) hm hf]
  · cases hg.symm.trans h

theorem State.gapPhase_ready_withoutTelemetry (h : s.gapPhase = .ready u) :
    s.withoutTelemetry.gapPhase = .ready u.withoutTelemetry := by
  obtain ⟨hm, hg⟩ | ⟨-, -, hg⟩ | ⟨-, -, hg⟩ | ⟨hm, hf, hg⟩ := s.gapPhase_cases
  · obtain rfl := Gap.ready.inj (hg.symm.trans h)
    rw [State.withoutTelemetry_pollKeyboard, State.gapPhase_of_not_stepMode (s := s.withoutTelemetry) hm]
  · cases hg.symm.trans h
  · cases hg.symm.trans h
  · obtain rfl := Gap.ready.inj (hg.symm.trans h)
    rw [State.withoutTelemetry_pollKeyboard, State.withoutTelemetry_emit rfl,
      State.gapPhase_of_continue (s := s.withoutTelemetry) hm hf]
    rfl

end GapPhase

/-! ### The handlers -/

section Handlers

variable (s : State)

@[simp] theorem State.withoutTelemetry_pc : s.withoutTelemetry.pc = s.pc := rfl
@[simp] theorem State.withoutTelemetry_x : s.withoutTelemetry.x = s.x := rfl

/-! The open slots are given what their rules name, DEBUG and the trace not among it (R131 point 2). -/

@[simp] theorem State.saccResult_withoutTelemetry (t : Nibble) : s.withoutTelemetry.saccResult t = s.saccResult t := rfl
@[simp] theorem State.lsrResult_withoutTelemetry (t : Nibble) (addr : Addr16) :
    s.withoutTelemetry.lsrResult t addr = s.lsrResult t addr := rfl
@[simp] theorem State.stkResult_withoutTelemetry (t : Nibble) : s.withoutTelemetry.stkResult t = s.stkResult t := rfl
@[simp] theorem State.movbResult_withoutTelemetry (t : Nibble) (o1 o2 : Byte) :
    s.withoutTelemetry.movbResult t o1 o2 = s.movbResult t o1 o2 := rfl

@[simp] theorem State.withoutTelemetry_advance (w : Nat) :
    (s.advance w).withoutTelemetry = s.withoutTelemetry.advance w := rfl

@[simp] theorem State.withoutTelemetry_storeBytes (addr : Nat) (vs : List Byte) :
    (s.storeBytes addr vs).withoutTelemetry = s.withoutTelemetry.storeBytes addr vs := by
  induction vs generalizing s addr with
  | nil => rfl
  | cons v rest ih => exact ih (s.writeByte addr v) (addr + 1)

theorem State.withoutTelemetry_applyWrites (ws : List Host.Cell) :
    (s.applyWrites ws).withoutTelemetry = s.withoutTelemetry.applyWrites ws := by
  induction ws generalizing s with
  | nil => rfl
  | cons w rest ih => exact ih (s.writeByte w.1 w.2)

@[simp] theorem State.withoutTelemetry_takeRegsAndWrites (r : Octet × List Host.Cell) :
    (s.takeRegsAndWrites r).withoutTelemetry = s.withoutTelemetry.takeRegsAndWrites r :=
  State.withoutTelemetry_applyWrites _ r.2

@[simp] theorem State.withoutTelemetry_takeStack (r : Word × Int × List Host.Cell) :
    (s.takeStack r).withoutTelemetry = s.withoutTelemetry.takeStack r :=
  State.withoutTelemetry_applyWrites _ r.2.2

@[simp] theorem State.withoutTelemetry_writeScreen (b1 b2 : Byte) :
    (s.writeScreen b1 b2).withoutTelemetry = s.withoutTelemetry.writeScreen b1 b2 := by
  cases hen : s.cfg.screenEn with
  | false => rw [State.writeScreen_of_disabled hen, State.writeScreen_of_disabled (s := s.withoutTelemetry) hen]
  | true =>
    rw [State.writeScreen_of_enabled hen, State.writeScreen_of_enabled (s := s.withoutTelemetry) hen,
      State.withoutTelemetry_emit rfl]

@[simp] theorem State.withoutTelemetry_raiseFatal (c : Cause) :
    (s.raiseFatal c).withoutTelemetry = s.withoutTelemetry.raiseFatal c :=
  State.withoutTelemetry_emit (s := s.halt c) rfl

/-- No handler reads DEBUG or the trace, and none emits telemetry: those that write memory or emit by the laws above, the others
field by field. -/
theorem exec_withoutTelemetry (i : Instr) : exec i s.withoutTelemetry = outcomeWithoutTelemetry (exec i s) := by
  cases i
  case sacc | lsr | movb | stk | st8 | wscr => simp
  case undefGpioB | undefGpioC | undefD | undefE | undefSf7 | undefSf8to15 => simp
  case ldal sel r => cases sel <;> rfl
  all_goals rfl

end Handlers

/-! ### The retire step -/

section Retire

variable (s : State)

theorem State.withoutTelemetry_count : s.count.withoutTelemetry = s.withoutTelemetry.count := by
  cases hr : s.run <;> simp [State.count, State.withoutTelemetry, hr]

/-- Trace is telemetry (R250). -/
theorem State.withoutTelemetry_telemetry : s.telemetry.withoutTelemetry = s.withoutTelemetry := by
  unfold State.telemetry
  split
  · exact State.withoutTelemetry_emit_telemetry rfl
  · rfl

/-- RasAdvisory is telemetry (R252). -/
theorem State.withoutTelemetry_advise (i : Instr) : (s.advise i).withoutTelemetry = s.withoutTelemetry := by
  unfold State.advise
  split
  · exact State.withoutTelemetry_emit_telemetry rfl
  · rfl

/-- The retire step of a machine without DEBUG is the count alone, and so is what is left of another's. -/
theorem State.withoutTelemetry_retire (i : Instr) : (s.retire i).withoutTelemetry = s.withoutTelemetry.retire i := by
  have hdebug : s.withoutTelemetry.cfg.debug = false := rfl
  have hretire : s.withoutTelemetry.retire i = s.withoutTelemetry.count := by
    simp [State.retire, State.telemetry, State.advise, hdebug]
  rw [hretire, State.retire, State.withoutTelemetry_advise, State.withoutTelemetry_telemetry, State.withoutTelemetry_count]

end Retire

/-! ### The step -/

theorem State.runInstr_withoutTelemetry (s : State) :
    s.withoutTelemetry.runInstr = outcomeWithoutTelemetry s.runInstr := by
  obtain ⟨t, h⟩ := exec_answers_next s.fetch s
  have h' : exec s.withoutTelemetry.fetch s.withoutTelemetry = .next t.withoutTelemetry := by
    rw [show s.withoutTelemetry.fetch = s.fetch from rfl, exec_withoutTelemetry, h]
    rfl
  rw [State.runInstr_next_iff.2 ⟨t, h, rfl⟩, State.runInstr_next_iff.2 ⟨_, h', rfl⟩]
  exact congrArg Host.Outcome.next (t.withoutTelemetry_retire _).symm

/-- A step commutes with taking out DEBUG and telemetry. -/
theorem step_withoutTelemetry (s : State) : step s.withoutTelemetry = outcomeWithoutTelemetry (step s) := by
  cases hr : s.run with
  | halted =>
    rw [step_of_halted hr, step_of_halted (s := s.withoutTelemetry) hr]
    rfl
  | running =>
    have hr' : s.withoutTelemetry.run = .running := hr
    cases hg : s.gapPhase with
    | done u =>
      rw [step_of_gapPhase_done hr hg, step_of_gapPhase_done hr' (State.gapPhase_done_withoutTelemetry hg)]
      rfl
    | ready u =>
      rw [step_of_ready hr hg, step_of_ready hr' (State.gapPhase_ready_withoutTelemetry hg),
        State.runInstr_withoutTelemetry]

/-- Settles O13: both outcomes, telemetry taken out, are the step of the one state without it. -/
theorem debugModeChangesOnlyTelemetry : Obligations.DebugModeChangesOnlyTelemetry := by
  intro s t h
  rw [agreeButTelemetry_iff, ← step_withoutTelemetry s, ← step_withoutTelemetry t, h]

end Sys2Proof.Machine
